-- ==== Sys2Proof/Word.lean ====
section
/-! DEFINITION. The two word types of the block (R5, R8): the byte `u8` and the 16-bit `u16`.
Everything the block computes is made of these, of naturals (lengths, stream positions) and of
one signed number (the displacement, an `Int` in -128..127). -/

namespace Sys2Proof

/-- `u8`: one byte of the stream, bit 0 the least significant (R6, R8). -/
abbrev Byte := BitVec 8

/-- `u16`: a 16-bit immediate, 0 to 65535 (R8). -/
abbrev Word16 := BitVec 16

end Sys2Proof
end

