-- ==== Sys2Proof/Config.lean ====
section
/-! DEFINITION. What is fixed for the design (R5, R72): the source fixes every size, so there is no
open parameter and no free value.  The spec settles the points it calls open itself (92 D1 to D22),
so none of them is a parameter here; the log entries 1, 2 and 3 say which decisions those are. -/

namespace Sys2Proof.Config

/-- `BYTE_W` of R5. -/
def byteWidth : Nat := 8

/-- `WINDOW` of R5: bytes of lookahead the block is shown. -/
def window : Nat := 4

/-- `MAX_LEN` of R5: the longest instruction, in bytes. -/
def maxLen : Nat := 4

/-- The four prefix bytes (R72): CB = 203, DD = 221, ED = 237, FD = 253. -/
def cbByte : Byte := 0xCB#8
def ddByte : Byte := 0xDD#8
def edByte : Byte := 0xED#8
def fdByte : Byte := 0xFD#8

/-- A byte that selects another format when it stands at `bytes[0]` (R61, R72). -/
abbrev isPrefixByte (b : Byte) : Bool := b == cbByte || b == ddByte || b == edByte || b == fdByte

end Sys2Proof.Config
end

