-- ==== Sys2Proof/Machine/Record.lean ====
section
/-! DEFINITION. The data model of 10_state.md (R25 to R29), the output ports of R32 as one
structure, the input window of R31, and the operand-length classes of 42_operand_length.md.
Types only; every function over them stands in a file whose bodies may be mended. -/

namespace Sys2Proof

/-- R26: the seven prefix kinds, in the source's listing order. -/
inductive PrefixKind where
  | none | cb | dd | ed | fd | ddcb | fdcb
deriving DecidableEq, Repr

/-- R25: a base opcode byte with its five sub-fields, each a `u8` as the rule says. -/
structure OpcodeByte where
  raw : Byte
  x : Byte
  y : Byte
  z : Byte
  p : Byte
  q : Byte
deriving DecidableEq, Repr

/-- R28: a tagged immediate; `byte 0x42` and `word 0x0042` are different values. -/
inductive Immediate where
  | byte (n : Byte)
  | word (nn : Word16)
deriving DecidableEq, Repr

/-- R27: the output record.  The rule's field `prefix` is called `prefixKind` here (the bare word is
reserved in Lean).  `displacement` is the signed number of R71, `length` counts bytes (R195). -/
structure Record where
  prefixKind : PrefixKind
  opcode : OpcodeByte
  displacement : Option Int
  immediate : Option Immediate
  length : Nat
deriving DecidableEq, Repr

/-- R29: the one error; it carries no payload. -/
inductive DecodeError where
  | truncated
deriving DecidableEq, Repr

/-- R8: `Result<α, DecodeError>`, a value or the error, never both and never a part of one. -/
inductive Result (α : Type) where
  | ok (a : α)
  | err (e : DecodeError)
deriving DecidableEq, Repr

/-- What DECODE answers (R197). -/
abbrev DecodeResult := Result Record

/-- R110: what the prefix dispatcher yields: the kind, the index `bi` of the base opcode (0, 1 or 3)
and, for the composite kinds only, the displacement `pd`. -/
structure PrefixOut where
  kind : PrefixKind
  bi : Nat
  pd : Option Int
deriving DecidableEq, Repr

/-- The second half of an operand shape (R130): no immediate, a Byte, or a Word. -/
inductive ImmKind where
  | none | byte | word
deriving DecidableEq, Repr

/-- R130: an operand shape: `d` displacement bytes (0 or 1) after the opcode, and the immediate. -/
structure Shape where
  d : Nat
  imm : ImmKind
deriving DecidableEq, Repr

/-- The operand-length classes that have rows in the opcode table for the kinds none, DD and FD
(R131 to R167).  X3Z3.Y1 (R148) has no row: its byte 0xCB is never a base opcode there. -/
inductive OpClass where
  | x0z0lo | x0z0rel | x0z1q0 | x0z1q1 | x0z2plo | x0z2phi | x0z3 | x0z4 | x0z5 | x0z6 | x0z7
  | x1 | x2
  | x3z0 | x3z1 | x3z2 | x3z3y0 | x3z3y23 | x3z3yhi | x3z4 | x3z5p0 | x3z5q0p | x3z5q1p | x3z6 | x3z7
  | idxX0Z4 | idxX0Z5 | idxX0Z6 | idxX1Z6 | idxX1Y6 | x1y6z6 | idxX2Z6
deriving DecidableEq, Repr

/-- One row of the opcode table within a prefix kind (R82): the row selects the base opcode `b`
exactly when `b & mask == pat`. -/
structure ClassRow where
  mask : Byte
  pat : Byte
  cls : OpClass
deriving DecidableEq, Repr

/-- R31: the input port `win`, four bytes. -/
structure Window where
  b0 : Byte
  b1 : Byte
  b2 : Byte
  b3 : Byte
deriving DecidableEq, Repr

/-- R32: the output ports, each at its width. -/
structure Outputs where
  status : BitVec 1
  prefixCode : BitVec 3
  opRaw : BitVec 8
  opX : BitVec 2
  opY : BitVec 3
  opZ : BitVec 3
  opP : BitVec 2
  opQ : BitVec 1
  dispPresent : BitVec 1
  disp : BitVec 8
  immKind : BitVec 2
  imm : BitVec 16
  length : BitVec 3
deriving DecidableEq, Repr

end Sys2Proof
end

