-- ==== Sys2Proof/Machine/Extract.lean ====
section
/-! DEFINITION. The bit-field extractor and the opcode classifier (40_bitfield_extractor.md), with
the sign-extension and byte-order helpers of R9, R43 and R71. -/

namespace Sys2Proof

/-- R90, R91: EXTRACT_BITS(byte, low, high), the unsigned value of bits `low..=high` moved down to
bit 0.  The precondition is an argument, so the function has no value outside it (92 D15). -/
def extractBits (byte : Byte) (low high : Nat) (_inDomain : low ≤ high ∧ high ≤ 7) : Byte :=
  BitVec.ofNat 8 ((byte.toNat / 2 ^ low) % 2 ^ (high - low + 1))

/-- R92: the five fixed ranges, the only ones the block contains. -/
def fieldX (byte : Byte) : Byte := extractBits byte 6 7 (by decide)
def fieldY (byte : Byte) : Byte := extractBits byte 3 5 (by decide)
def fieldZ (byte : Byte) : Byte := extractBits byte 0 2 (by decide)
def fieldP (byte : Byte) : Byte := extractBits byte 4 5 (by decide)
def fieldQ (byte : Byte) : Byte := extractBits byte 3 3 (by decide)

/-- R100: CLASSIFY(byte), each field assigned once from its own range (R101). -/
def classify (byte : Byte) : OpcodeByte :=
  { raw := byte
    x := fieldX byte
    y := fieldY byte
    z := fieldZ byte
    p := fieldP byte
    q := fieldQ byte }

/-- R9: `sext8(b)`, the `i8` with the same eight bits. -/
def sext8 (b : Byte) : Int :=
  if b.toNat < 128 then (b.toNat : Int) else (b.toNat : Int) - 256

/-- R9: `zext16(b)`. -/
def zext16 (b : Byte) : Word16 := b.setWidth 16

/-- R43, R193: `low | (high << 8)`. -/
def joinWord (low high : Byte) : Word16 := zext16 low ||| (zext16 high <<< 8)

/-- The two stream bytes of a Word, low byte first (R43). -/
def lowByte (nn : Word16) : Byte := nn.extractLsb' 0 8
def highByte (nn : Word16) : Byte := nn.extractLsb' 8 8

/-- R67: the base opcode byte with the fields x, y, z. -/
def opXYZ (x : BitVec 2) (y z : BitVec 3) : Byte := x ++ y ++ z

/-- R67: the base opcode byte with the fields x, p, q, z (the second view of y). -/
def opXPQZ (x p : BitVec 2) (q : BitVec 1) (z : BitVec 3) : Byte := x ++ p ++ q ++ z

/-- The free fields of a base opcode byte at their own widths, as an instruction carries them
(R67): y and z three bits, p two, q one. -/
def bitsY (op : Byte) : BitVec 3 := op.extractLsb' 3 3
def bitsZ (op : Byte) : BitVec 3 := op.extractLsb' 0 3
def bitsP (op : Byte) : BitVec 2 := op.extractLsb' 4 2
def bitsQ (op : Byte) : BitVec 1 := op.extractLsb' 3 1

end Sys2Proof
end

