-- ==== Sys2Proof/Syntax.lean ====
section
/-! DEFINITION. The instructions: one constructor per mnemonic of spec/opcode_table.json (R82; the
table's 137 rows carry 92 mnemonics, a class whose opcodes are not one bit pattern being several rows
with one mnemonic and one rule).  An instruction carries the free sub-fields of its base opcode under
the spec's own names (y, z three bits, p two, q one), its displacement byte `d`, its immediate byte `n`
or its 16-bit immediate `nn`.  The four kinds with one class carry the base opcode byte `op` itself.
Names: the prefix kind (n, dd, fd, cb, ed, ddcb, fdcb), then the class. -/

namespace Sys2Proof

inductive Instr where
  /-- N.X0Z0.LO (R131): x=0, z=0, y in 0..=3; `000yy000`. -/
  | nX0Z0Lo (y : BitVec 3)
  /-- N.X0Z0.REL (R132): x=0, z=0, y in 4..=7; `001yy000 dddddddd`. -/
  | nX0Z0Rel (y : BitVec 3) (d : Byte)
  /-- N.X0Z1.Q0 (R133): x=0, z=1, q=0; `00yy0001 llllllll hhhhhhhh`. -/
  | nX0Z1Q0 (p : BitVec 2) (nn : Word16)
  /-- N.X0Z1.Q1 (R134): x=0, z=1, q=1; `00yy1001`. -/
  | nX0Z1Q1 (p : BitVec 2)
  /-- N.X0Z2.PLO (R135): x=0, z=2, p in {0,1}, that is y in 0..=3; `000yy010`. -/
  | nX0Z2Plo (y : BitVec 3)
  /-- N.X0Z2.PHI (R136): x=0, z=2, p in {2,3}, that is y in 4..=7; `001yy010 llllllll hhhhhhhh`. -/
  | nX0Z2Phi (y : BitVec 3) (nn : Word16)
  /-- N.X0Z3 (R137): x=0, z=3; `00yyy011`. -/
  | nX0Z3 (y : BitVec 3)
  /-- N.X0Z4 (R138): x=0, z=4; `00yyy100`. -/
  | nX0Z4 (y : BitVec 3)
  /-- N.X0Z5 (R139): x=0, z=5; `00yyy101`. -/
  | nX0Z5 (y : BitVec 3)
  /-- N.X0Z6 (R140): x=0, z=6; `00yyy110 nnnnnnnn`. -/
  | nX0Z6 (y : BitVec 3) (n : Byte)
  /-- N.X0Z7 (R141): x=0, z=7; `00yyy111`. -/
  | nX0Z7 (y : BitVec 3)
  /-- N.X1 (R142): x=1; `01yyyzzz`. -/
  | nX1 (y z : BitVec 3)
  /-- N.X2 (R143): x=2; `10yyyzzz`. -/
  | nX2 (y z : BitVec 3)
  /-- N.X3Z0 (R144): x=3, z=0; `11yyy000`. -/
  | nX3Z0 (y : BitVec 3)
  /-- N.X3Z1 (R145): x=3, z=1; `11yyy001`. -/
  | nX3Z1 (y : BitVec 3)
  /-- N.X3Z2 (R146): x=3, z=2; `11yyy010 llllllll hhhhhhhh`. -/
  | nX3Z2 (y : BitVec 3) (nn : Word16)
  /-- N.X3Z3.Y0 (R147): x=3, z=3, y=0; `11000011 llllllll hhhhhhhh`. -/
  | nX3Z3Y0 (nn : Word16)
  /-- N.X3Z3.Y23 (R149): x=3, z=3, y in {2,3}; `1101y011 nnnnnnnn`. -/
  | nX3Z3Y23 (y : BitVec 3) (n : Byte)
  /-- N.X3Z3.YHI (R150): x=3, z=3, y in 4..=7; `111yy011`. -/
  | nX3Z3Yhi (y : BitVec 3)
  /-- N.X3Z4 (R151): x=3, z=4; `11yyy100`. -/
  | nX3Z4 (y : BitVec 3)
  /-- N.X3Z5.P0 (R152): x=3, z=5, p=0; `1100y101 llllllll hhhhhhhh`. -/
  | nX3Z5P0 (q : BitVec 1) (nn : Word16)
  /-- N.X3Z5.Q0P (R153): x=3, z=5, q=0, p in {1,2,3}; rows `11010101`, `111y0101`. -/
  | nX3Z5Q0p (p : BitVec 2)
  /-- N.X3Z6 (R155): x=3, z=6; `11yyy110 nnnnnnnn`. -/
  | nX3Z6 (y : BitVec 3) (n : Byte)
  /-- N.X3Z7 (R156): x=3, z=7; `11yyy111`. -/
  | nX3Z7 (y : BitVec 3)
  /-- DD.X0Z0.LO (R131): x=0, z=0, y in 0..=3; `11011101 000yy000`. -/
  | ddX0Z0Lo (y : BitVec 3)
  /-- DD.X0Z0.REL (R132): x=0, z=0, y in 4..=7; `11011101 001yy000 dddddddd`. -/
  | ddX0Z0Rel (y : BitVec 3) (d : Byte)
  /-- DD.X0Z1.Q0 (R133): x=0, z=1, q=0; `11011101 00yy0001 llllllll hhhhhhhh`. -/
  | ddX0Z1Q0 (p : BitVec 2) (nn : Word16)
  /-- DD.X0Z1.Q1 (R134): x=0, z=1, q=1; `11011101 00yy1001`. -/
  | ddX0Z1Q1 (p : BitVec 2)
  /-- DD.X0Z2.PLO (R135): x=0, z=2, p in {0,1}, that is y in 0..=3; `11011101 000yy010`. -/
  | ddX0Z2Plo (y : BitVec 3)
  /-- DD.X0Z2.PHI (R136): x=0, z=2, p in {2,3}, that is y in 4..=7; `11011101 001yy010 llllllll hhhhhhhh`. -/
  | ddX0Z2Phi (y : BitVec 3) (nn : Word16)
  /-- DD.X0Z3 (R137): x=0, z=3; `11011101 00yyy011`. -/
  | ddX0Z3 (y : BitVec 3)
  /-- DD.X0Z4 (R138): x=0, z=4 and not an indexed form (R160); rows `11011101 000yy100`, `11011101 0010y100`, `11011101 00111100`. -/
  | ddX0Z4 (y : BitVec 3)
  /-- DD.X0Z5 (R139): x=0, z=5 and not an indexed form (R160); rows `11011101 000yy101`, `11011101 0010y101`, `11011101 00111101`. -/
  | ddX0Z5 (y : BitVec 3)
  /-- DD.X0Z6 (R140): x=0, z=6 and not an indexed form (R160); rows `11011101 000yy110 nnnnnnnn`, `11011101 0010y110 nnnnnnnn`, `11011101 00111110 nnnnnnnn`. -/
  | ddX0Z6 (y : BitVec 3) (n : Byte)
  /-- DD.X0Z7 (R141): x=0, z=7; `11011101 00yyy111`. -/
  | ddX0Z7 (y : BitVec 3)
  /-- DD.X1 (R142): x=1 and not an indexed form (R160); rows `11011101 010yy0zz`, `11011101 010yy10z`, `11011101 010yy111`, …. -/
  | ddX1 (y z : BitVec 3)
  /-- DD.X2 (R143): x=2 and not an indexed form (R160); rows `11011101 10yyy0zz`, `11011101 10yyy10z`, `11011101 10yyy111`. -/
  | ddX2 (y z : BitVec 3)
  /-- DD.X3Z0 (R144): x=3, z=0; `11011101 11yyy000`. -/
  | ddX3Z0 (y : BitVec 3)
  /-- DD.X3Z1 (R145): x=3, z=1; `11011101 11yyy001`. -/
  | ddX3Z1 (y : BitVec 3)
  /-- DD.X3Z2 (R146): x=3, z=2; `11011101 11yyy010 llllllll hhhhhhhh`. -/
  | ddX3Z2 (y : BitVec 3) (nn : Word16)
  /-- DD.X3Z3.Y0 (R147): x=3, z=3, y=0; `11011101 11000011 llllllll hhhhhhhh`. -/
  | ddX3Z3Y0 (nn : Word16)
  /-- DD.X3Z3.Y23 (R149): x=3, z=3, y in {2,3}; `11011101 1101y011 nnnnnnnn`. -/
  | ddX3Z3Y23 (y : BitVec 3) (n : Byte)
  /-- DD.X3Z3.YHI (R150): x=3, z=3, y in 4..=7; `11011101 111yy011`. -/
  | ddX3Z3Yhi (y : BitVec 3)
  /-- DD.X3Z4 (R151): x=3, z=4; `11011101 11yyy100`. -/
  | ddX3Z4 (y : BitVec 3)
  /-- DD.X3Z5.P0 (R152): x=3, z=5, p=0; `11011101 1100y101 llllllll hhhhhhhh`. -/
  | ddX3Z5P0 (q : BitVec 1) (nn : Word16)
  /-- DD.X3Z5.Q0P (R153): x=3, z=5, q=0, p in {1,2,3}; rows `11011101 11010101`, `11011101 111y0101`. -/
  | ddX3Z5Q0p (p : BitVec 2)
  /-- DD.X3Z5.Q1P (R154): x=3, z=5, q=1, p in {1,2,3}; rows `11011101 11011101`, `11011101 111y1101`. -/
  | ddX3Z5Q1p (p : BitVec 2)
  /-- DD.X3Z6 (R155): x=3, z=6; `11011101 11yyy110 nnnnnnnn`. -/
  | ddX3Z6 (y : BitVec 3) (n : Byte)
  /-- DD.X3Z7 (R156): x=3, z=7; `11011101 11yyy111`. -/
  | ddX3Z7 (y : BitVec 3)
  /-- DD.IDX.X0Z4 (R161): x=0, y=6, z=4; `11011101 00110100 dddddddd`. -/
  | ddIdxX0Z4 (d : Byte)
  /-- DD.IDX.X0Z5 (R162): x=0, y=6, z=5; `11011101 00110101 dddddddd`. -/
  | ddIdxX0Z5 (d : Byte)
  /-- DD.IDX.X0Z6 (R163): x=0, y=6, z=6; `11011101 00110110 dddddddd nnnnnnnn`. -/
  | ddIdxX0Z6 (d n : Byte)
  /-- DD.IDX.X1Z6 (R164): x=1, z=6, y not 6; rows `11011101 010yy110 dddddddd`, `11011101 0110y110 dddddddd`, `11011101 01111110 dddddddd`. -/
  | ddIdxX1Z6 (y : BitVec 3) (d : Byte)
  /-- DD.IDX.X1Y6 (R165): x=1, y=6, z not 6; rows `11011101 011100zz dddddddd`, `11011101 0111010z dddddddd`, `11011101 01110111 dddddddd`. -/
  | ddIdxX1Y6 (z : BitVec 3) (d : Byte)
  /-- DD.X1.Y6Z6 (R166): x=1, y=6, z=6; `11011101 01110110`. -/
  | ddX1Y6Z6
  /-- DD.IDX.X2Z6 (R167): x=2, z=6; `11011101 10yyy110 dddddddd`. -/
  | ddIdxX2Z6 (y : BitVec 3) (d : Byte)
  /-- FD.X0Z0.LO (R131): x=0, z=0, y in 0..=3; `11111101 000yy000`. -/
  | fdX0Z0Lo (y : BitVec 3)
  /-- FD.X0Z0.REL (R132): x=0, z=0, y in 4..=7; `11111101 001yy000 dddddddd`. -/
  | fdX0Z0Rel (y : BitVec 3) (d : Byte)
  /-- FD.X0Z1.Q0 (R133): x=0, z=1, q=0; `11111101 00yy0001 llllllll hhhhhhhh`. -/
  | fdX0Z1Q0 (p : BitVec 2) (nn : Word16)
  /-- FD.X0Z1.Q1 (R134): x=0, z=1, q=1; `11111101 00yy1001`. -/
  | fdX0Z1Q1 (p : BitVec 2)
  /-- FD.X0Z2.PLO (R135): x=0, z=2, p in {0,1}, that is y in 0..=3; `11111101 000yy010`. -/
  | fdX0Z2Plo (y : BitVec 3)
  /-- FD.X0Z2.PHI (R136): x=0, z=2, p in {2,3}, that is y in 4..=7; `11111101 001yy010 llllllll hhhhhhhh`. -/
  | fdX0Z2Phi (y : BitVec 3) (nn : Word16)
  /-- FD.X0Z3 (R137): x=0, z=3; `11111101 00yyy011`. -/
  | fdX0Z3 (y : BitVec 3)
  /-- FD.X0Z4 (R138): x=0, z=4 and not an indexed form (R160); rows `11111101 000yy100`, `11111101 0010y100`, `11111101 00111100`. -/
  | fdX0Z4 (y : BitVec 3)
  /-- FD.X0Z5 (R139): x=0, z=5 and not an indexed form (R160); rows `11111101 000yy101`, `11111101 0010y101`, `11111101 00111101`. -/
  | fdX0Z5 (y : BitVec 3)
  /-- FD.X0Z6 (R140): x=0, z=6 and not an indexed form (R160); rows `11111101 000yy110 nnnnnnnn`, `11111101 0010y110 nnnnnnnn`, `11111101 00111110 nnnnnnnn`. -/
  | fdX0Z6 (y : BitVec 3) (n : Byte)
  /-- FD.X0Z7 (R141): x=0, z=7; `11111101 00yyy111`. -/
  | fdX0Z7 (y : BitVec 3)
  /-- FD.X1 (R142): x=1 and not an indexed form (R160); rows `11111101 010yy0zz`, `11111101 010yy10z`, `11111101 010yy111`, …. -/
  | fdX1 (y z : BitVec 3)
  /-- FD.X2 (R143): x=2 and not an indexed form (R160); rows `11111101 10yyy0zz`, `11111101 10yyy10z`, `11111101 10yyy111`. -/
  | fdX2 (y z : BitVec 3)
  /-- FD.X3Z0 (R144): x=3, z=0; `11111101 11yyy000`. -/
  | fdX3Z0 (y : BitVec 3)
  /-- FD.X3Z1 (R145): x=3, z=1; `11111101 11yyy001`. -/
  | fdX3Z1 (y : BitVec 3)
  /-- FD.X3Z2 (R146): x=3, z=2; `11111101 11yyy010 llllllll hhhhhhhh`. -/
  | fdX3Z2 (y : BitVec 3) (nn : Word16)
  /-- FD.X3Z3.Y0 (R147): x=3, z=3, y=0; `11111101 11000011 llllllll hhhhhhhh`. -/
  | fdX3Z3Y0 (nn : Word16)
  /-- FD.X3Z3.Y23 (R149): x=3, z=3, y in {2,3}; `11111101 1101y011 nnnnnnnn`. -/
  | fdX3Z3Y23 (y : BitVec 3) (n : Byte)
  /-- FD.X3Z3.YHI (R150): x=3, z=3, y in 4..=7; `11111101 111yy011`. -/
  | fdX3Z3Yhi (y : BitVec 3)
  /-- FD.X3Z4 (R151): x=3, z=4; `11111101 11yyy100`. -/
  | fdX3Z4 (y : BitVec 3)
  /-- FD.X3Z5.P0 (R152): x=3, z=5, p=0; `11111101 1100y101 llllllll hhhhhhhh`. -/
  | fdX3Z5P0 (q : BitVec 1) (nn : Word16)
  /-- FD.X3Z5.Q0P (R153): x=3, z=5, q=0, p in {1,2,3}; rows `11111101 11010101`, `11111101 111y0101`. -/
  | fdX3Z5Q0p (p : BitVec 2)
  /-- FD.X3Z5.Q1P (R154): x=3, z=5, q=1, p in {1,2,3}; rows `11111101 11011101`, `11111101 111y1101`. -/
  | fdX3Z5Q1p (p : BitVec 2)
  /-- FD.X3Z6 (R155): x=3, z=6; `11111101 11yyy110 nnnnnnnn`. -/
  | fdX3Z6 (y : BitVec 3) (n : Byte)
  /-- FD.X3Z7 (R156): x=3, z=7; `11111101 11yyy111`. -/
  | fdX3Z7 (y : BitVec 3)
  /-- FD.IDX.X0Z4 (R161): x=0, y=6, z=4; `11111101 00110100 dddddddd`. -/
  | fdIdxX0Z4 (d : Byte)
  /-- FD.IDX.X0Z5 (R162): x=0, y=6, z=5; `11111101 00110101 dddddddd`. -/
  | fdIdxX0Z5 (d : Byte)
  /-- FD.IDX.X0Z6 (R163): x=0, y=6, z=6; `11111101 00110110 dddddddd nnnnnnnn`. -/
  | fdIdxX0Z6 (d n : Byte)
  /-- FD.IDX.X1Z6 (R164): x=1, z=6, y not 6; rows `11111101 010yy110 dddddddd`, `11111101 0110y110 dddddddd`, `11111101 01111110 dddddddd`. -/
  | fdIdxX1Z6 (y : BitVec 3) (d : Byte)
  /-- FD.IDX.X1Y6 (R165): x=1, y=6, z not 6; rows `11111101 011100zz dddddddd`, `11111101 0111010z dddddddd`, `11111101 01110111 dddddddd`. -/
  | fdIdxX1Y6 (z : BitVec 3) (d : Byte)
  /-- FD.X1.Y6Z6 (R166): x=1, y=6, z=6; `11111101 01110110`. -/
  | fdX1Y6Z6
  /-- FD.IDX.X2Z6 (R167): x=2, z=6; `11111101 10yyy110 dddddddd`. -/
  | fdIdxX2Z6 (y : BitVec 3) (d : Byte)
  /-- CB.ANY (R170): any base opcode; `11001011 xxyyyzzz`. -/
  | cbAny (op : Byte)
  /-- ED.ANY (R171): any base opcode; `11101101 xxyyyzzz`. -/
  | edAny (op : Byte)
  /-- DDCB.ANY (R172): any base opcode; `11011101 11001011 dddddddd xxyyyzzz`. -/
  | ddcbAny (d op : Byte)
  /-- FDCB.ANY (R172): any base opcode; `11111101 11001011 dddddddd xxyyyzzz`. -/
  | fdcbAny (d op : Byte)
deriving DecidableEq, Repr

end Sys2Proof
end

