-- ==== Sys2Proof/WellFormed.lean ====
section
/-! DEFINITION. When an instruction term stands for an instruction: its free sub-fields lie in the
range that selects its class (42_operand_length.md; R138 to R143 and R160 for the classes that leave
out the indexed forms under DD and FD).  Operand bytes are free. -/

namespace Sys2Proof

/-- The selecting condition of each class on its free sub-fields. -/
def Instr.wf : Instr → Bool
  | .nX0Z0Lo y => decide (y.toNat < 4)
  | .nX0Z0Rel y _ => decide (4 ≤ y.toNat)
  | .nX0Z1Q0 _ _ => true
  | .nX0Z1Q1 _ => true
  | .nX0Z2Plo y => decide (y.toNat < 4)
  | .nX0Z2Phi y _ => decide (4 ≤ y.toNat)
  | .nX0Z3 _ => true
  | .nX0Z4 _ => true
  | .nX0Z5 _ => true
  | .nX0Z6 _ _ => true
  | .nX0Z7 _ => true
  | .nX1 _ _ => true
  | .nX2 _ _ => true
  | .nX3Z0 _ => true
  | .nX3Z1 _ => true
  | .nX3Z2 _ _ => true
  | .nX3Z3Y0 _ => true
  | .nX3Z3Y23 y _ => y == 2 || y == 3
  | .nX3Z3Yhi y => decide (4 ≤ y.toNat)
  | .nX3Z4 _ => true
  | .nX3Z5P0 _ _ => true
  | .nX3Z5Q0p p => p != 0
  | .nX3Z6 _ _ => true
  | .nX3Z7 _ => true
  | .ddX0Z0Lo y => decide (y.toNat < 4)
  | .ddX0Z0Rel y _ => decide (4 ≤ y.toNat)
  | .ddX0Z1Q0 _ _ => true
  | .ddX0Z1Q1 _ => true
  | .ddX0Z2Plo y => decide (y.toNat < 4)
  | .ddX0Z2Phi y _ => decide (4 ≤ y.toNat)
  | .ddX0Z3 _ => true
  | .ddX0Z4 y => y != 6
  | .ddX0Z5 y => y != 6
  | .ddX0Z6 y _ => y != 6
  | .ddX0Z7 _ => true
  | .ddX1 y z => y != 6 && z != 6
  | .ddX2 _ z => z != 6
  | .ddX3Z0 _ => true
  | .ddX3Z1 _ => true
  | .ddX3Z2 _ _ => true
  | .ddX3Z3Y0 _ => true
  | .ddX3Z3Y23 y _ => y == 2 || y == 3
  | .ddX3Z3Yhi y => decide (4 ≤ y.toNat)
  | .ddX3Z4 _ => true
  | .ddX3Z5P0 _ _ => true
  | .ddX3Z5Q0p p => p != 0
  | .ddX3Z5Q1p p => p != 0
  | .ddX3Z6 _ _ => true
  | .ddX3Z7 _ => true
  | .ddIdxX0Z4 _ => true
  | .ddIdxX0Z5 _ => true
  | .ddIdxX0Z6 _ _ => true
  | .ddIdxX1Z6 y _ => y != 6
  | .ddIdxX1Y6 z _ => z != 6
  | .ddX1Y6Z6 => true
  | .ddIdxX2Z6 _ _ => true
  | .fdX0Z0Lo y => decide (y.toNat < 4)
  | .fdX0Z0Rel y _ => decide (4 ≤ y.toNat)
  | .fdX0Z1Q0 _ _ => true
  | .fdX0Z1Q1 _ => true
  | .fdX0Z2Plo y => decide (y.toNat < 4)
  | .fdX0Z2Phi y _ => decide (4 ≤ y.toNat)
  | .fdX0Z3 _ => true
  | .fdX0Z4 y => y != 6
  | .fdX0Z5 y => y != 6
  | .fdX0Z6 y _ => y != 6
  | .fdX0Z7 _ => true
  | .fdX1 y z => y != 6 && z != 6
  | .fdX2 _ z => z != 6
  | .fdX3Z0 _ => true
  | .fdX3Z1 _ => true
  | .fdX3Z2 _ _ => true
  | .fdX3Z3Y0 _ => true
  | .fdX3Z3Y23 y _ => y == 2 || y == 3
  | .fdX3Z3Yhi y => decide (4 ≤ y.toNat)
  | .fdX3Z4 _ => true
  | .fdX3Z5P0 _ _ => true
  | .fdX3Z5Q0p p => p != 0
  | .fdX3Z5Q1p p => p != 0
  | .fdX3Z6 _ _ => true
  | .fdX3Z7 _ => true
  | .fdIdxX0Z4 _ => true
  | .fdIdxX0Z5 _ => true
  | .fdIdxX0Z6 _ _ => true
  | .fdIdxX1Z6 y _ => y != 6
  | .fdIdxX1Y6 z _ => z != 6
  | .fdX1Y6Z6 => true
  | .fdIdxX2Z6 _ _ => true
  | .cbAny _ => true
  | .edAny _ => true
  | .ddcbAny _ _ => true
  | .fdcbAny _ _ => true

end Sys2Proof
end

