-- ==== Sys2Proof/Decode.lean ====
section
/-! DEFINITION. The decoder by the opcode table (R82: resolve the prefix kind by 41_prefix_dispatch.md,
find the one row of that kind whose mask and match fit the base opcode, read its fields), total on any
bytes, and the encoder after it.  It is written from spec/opcode_table.json and the formats R61 to R65;
the pseudocode of DECODE (R197) is the independent definition in Machine/Block.lean, and that the two
agree is a statement. -/

namespace Sys2Proof

/-- What the decoder answers: the instruction with the bytes after it, or a rejection by name.
`truncated` is the error of R29.  `noRow` would be a base opcode without a row of the table; R75 and
R173 say there is none, and a statement says this decoder never answers it. -/
inductive Decoded where
  | ok (i : Instr) (rest : List Byte)
  | truncated
  | noRow
deriving DecidableEq, Repr

/-- One operand byte (a displacement or a Byte) after the opcode (R190). -/
def takeByte (rest : List Byte) (k : Byte → Instr) : Decoded :=
  match rest with
  | b :: r => .ok (k b) r
  | [] => .truncated

/-- Two operand bytes as a Word, low byte first (R43, R70). -/
def takeWord (rest : List Byte) (k : Word16 → Instr) : Decoded :=
  match rest with
  | low :: high :: r => .ok (k (joinWord low high)) r
  | _ => .truncated

/-- A displacement byte and then a Byte (R66). -/
def takeTwo (rest : List Byte) (k : Byte → Byte → Instr) : Decoded :=
  match rest with
  | d :: n :: r => .ok (k d n) r
  | _ => .truncated

/-- The rows of prefix kind none: op_mask, op_match, class, x=0. -/
def tableNX0 : List ClassRow :=
  [ ⟨0xE7#8, 0x00#8, .x0z0lo⟩,
    ⟨0xCF#8, 0x01#8, .x0z1q0⟩,
    ⟨0xE7#8, 0x02#8, .x0z2plo⟩,
    ⟨0xC7#8, 0x03#8, .x0z3⟩,
    ⟨0xC7#8, 0x04#8, .x0z4⟩,
    ⟨0xC7#8, 0x05#8, .x0z5⟩,
    ⟨0xC7#8, 0x06#8, .x0z6⟩,
    ⟨0xC7#8, 0x07#8, .x0z7⟩,
    ⟨0xCF#8, 0x09#8, .x0z1q1⟩,
    ⟨0xE7#8, 0x20#8, .x0z0rel⟩,
    ⟨0xE7#8, 0x22#8, .x0z2phi⟩ ]

/-- The rows of prefix kind none: op_mask, op_match, class, x=1. -/
def tableNX1 : List ClassRow :=
  [ ⟨0xC0#8, 0x40#8, .x1⟩ ]

/-- The rows of prefix kind none: op_mask, op_match, class, x=2. -/
def tableNX2 : List ClassRow :=
  [ ⟨0xC0#8, 0x80#8, .x2⟩ ]

/-- The rows of prefix kind none: op_mask, op_match, class, x=3. -/
def tableNX3 : List ClassRow :=
  [ ⟨0xC7#8, 0xC0#8, .x3z0⟩,
    ⟨0xC7#8, 0xC1#8, .x3z1⟩,
    ⟨0xC7#8, 0xC2#8, .x3z2⟩,
    ⟨0xFF#8, 0xC3#8, .x3z3y0⟩,
    ⟨0xC7#8, 0xC4#8, .x3z4⟩,
    ⟨0xF7#8, 0xC5#8, .x3z5p0⟩,
    ⟨0xC7#8, 0xC6#8, .x3z6⟩,
    ⟨0xC7#8, 0xC7#8, .x3z7⟩,
    ⟨0xF7#8, 0xD3#8, .x3z3y23⟩,
    ⟨0xFF#8, 0xD5#8, .x3z5q0p⟩,
    ⟨0xEF#8, 0xE5#8, .x3z5q0p⟩,
    ⟨0xE7#8, 0xE3#8, .x3z3yhi⟩ ]

/-- The rows of prefix kind none: op_mask, op_match, class, all of it. -/
def tableN : List ClassRow := tableNX0 ++ tableNX1 ++ tableNX2 ++ tableNX3

/-- The rows of prefix kinds DD and FD (the same rows for both, R115): op_mask, op_match, class, x=0. -/
def tableXYX0 : List ClassRow :=
  [ ⟨0xE7#8, 0x00#8, .x0z0lo⟩,
    ⟨0xCF#8, 0x01#8, .x0z1q0⟩,
    ⟨0xE7#8, 0x02#8, .x0z2plo⟩,
    ⟨0xC7#8, 0x03#8, .x0z3⟩,
    ⟨0xE7#8, 0x04#8, .x0z4⟩,
    ⟨0xF7#8, 0x24#8, .x0z4⟩,
    ⟨0xFF#8, 0x3C#8, .x0z4⟩,
    ⟨0xE7#8, 0x05#8, .x0z5⟩,
    ⟨0xF7#8, 0x25#8, .x0z5⟩,
    ⟨0xFF#8, 0x3D#8, .x0z5⟩,
    ⟨0xE7#8, 0x06#8, .x0z6⟩,
    ⟨0xF7#8, 0x26#8, .x0z6⟩,
    ⟨0xFF#8, 0x3E#8, .x0z6⟩,
    ⟨0xC7#8, 0x07#8, .x0z7⟩,
    ⟨0xCF#8, 0x09#8, .x0z1q1⟩,
    ⟨0xE7#8, 0x20#8, .x0z0rel⟩,
    ⟨0xE7#8, 0x22#8, .x0z2phi⟩,
    ⟨0xFF#8, 0x34#8, .idxX0Z4⟩,
    ⟨0xFF#8, 0x35#8, .idxX0Z5⟩,
    ⟨0xFF#8, 0x36#8, .idxX0Z6⟩ ]

/-- The rows of prefix kinds DD and FD (the same rows for both, R115): op_mask, op_match, class, x=1. -/
def tableXYX1 : List ClassRow :=
  [ ⟨0xE4#8, 0x40#8, .x1⟩,
    ⟨0xE6#8, 0x44#8, .x1⟩,
    ⟨0xE7#8, 0x47#8, .x1⟩,
    ⟨0xF4#8, 0x60#8, .x1⟩,
    ⟨0xF6#8, 0x64#8, .x1⟩,
    ⟨0xF7#8, 0x67#8, .x1⟩,
    ⟨0xFC#8, 0x78#8, .x1⟩,
    ⟨0xFE#8, 0x7C#8, .x1⟩,
    ⟨0xFF#8, 0x7F#8, .x1⟩,
    ⟨0xE7#8, 0x46#8, .idxX1Z6⟩,
    ⟨0xF7#8, 0x66#8, .idxX1Z6⟩,
    ⟨0xFF#8, 0x7E#8, .idxX1Z6⟩,
    ⟨0xFC#8, 0x70#8, .idxX1Y6⟩,
    ⟨0xFE#8, 0x74#8, .idxX1Y6⟩,
    ⟨0xFF#8, 0x77#8, .idxX1Y6⟩,
    ⟨0xFF#8, 0x76#8, .x1y6z6⟩ ]

/-- The rows of prefix kinds DD and FD (the same rows for both, R115): op_mask, op_match, class, x=2. -/
def tableXYX2 : List ClassRow :=
  [ ⟨0xC4#8, 0x80#8, .x2⟩,
    ⟨0xC6#8, 0x84#8, .x2⟩,
    ⟨0xC7#8, 0x87#8, .x2⟩,
    ⟨0xC7#8, 0x86#8, .idxX2Z6⟩ ]

/-- The rows of prefix kinds DD and FD (the same rows for both, R115): op_mask, op_match, class, x=3. -/
def tableXYX3 : List ClassRow :=
  [ ⟨0xC7#8, 0xC0#8, .x3z0⟩,
    ⟨0xC7#8, 0xC1#8, .x3z1⟩,
    ⟨0xC7#8, 0xC2#8, .x3z2⟩,
    ⟨0xFF#8, 0xC3#8, .x3z3y0⟩,
    ⟨0xC7#8, 0xC4#8, .x3z4⟩,
    ⟨0xF7#8, 0xC5#8, .x3z5p0⟩,
    ⟨0xC7#8, 0xC6#8, .x3z6⟩,
    ⟨0xC7#8, 0xC7#8, .x3z7⟩,
    ⟨0xF7#8, 0xD3#8, .x3z3y23⟩,
    ⟨0xFF#8, 0xD5#8, .x3z5q0p⟩,
    ⟨0xEF#8, 0xE5#8, .x3z5q0p⟩,
    ⟨0xFF#8, 0xDD#8, .x3z5q1p⟩,
    ⟨0xEF#8, 0xED#8, .x3z5q1p⟩,
    ⟨0xE7#8, 0xE3#8, .x3z3yhi⟩ ]

/-- The rows of prefix kinds DD and FD (the same rows for both, R115): op_mask, op_match, class, all of it. -/
def tableXY : List ClassRow := tableXYX0 ++ tableXYX1 ++ tableXYX2 ++ tableXYX3

/-- The class of the first row that fits the base opcode (R82). -/
def classOf (table : List ClassRow) (op : Byte) : Option OpClass :=
  (table.find? fun r => op &&& r.mask == r.pat).map ClassRow.cls

/-- Format N (R61): the base opcode is `bytes[0]`; `rest` is what follows it. -/
def decodeN (op : Byte) (rest : List Byte) : Decoded :=
  match classOf tableN op with
  | some .x0z0lo => .ok (.nX0Z0Lo (bitsY op)) rest
  | some .x0z0rel => takeByte rest fun d => .nX0Z0Rel (bitsY op) d
  | some .x0z1q0 => takeWord rest fun nn => .nX0Z1Q0 (bitsP op) nn
  | some .x0z1q1 => .ok (.nX0Z1Q1 (bitsP op)) rest
  | some .x0z2plo => .ok (.nX0Z2Plo (bitsY op)) rest
  | some .x0z2phi => takeWord rest fun nn => .nX0Z2Phi (bitsY op) nn
  | some .x0z3 => .ok (.nX0Z3 (bitsY op)) rest
  | some .x0z4 => .ok (.nX0Z4 (bitsY op)) rest
  | some .x0z5 => .ok (.nX0Z5 (bitsY op)) rest
  | some .x0z6 => takeByte rest fun n => .nX0Z6 (bitsY op) n
  | some .x0z7 => .ok (.nX0Z7 (bitsY op)) rest
  | some .x1 => .ok (.nX1 (bitsY op) (bitsZ op)) rest
  | some .x2 => .ok (.nX2 (bitsY op) (bitsZ op)) rest
  | some .x3z0 => .ok (.nX3Z0 (bitsY op)) rest
  | some .x3z1 => .ok (.nX3Z1 (bitsY op)) rest
  | some .x3z2 => takeWord rest fun nn => .nX3Z2 (bitsY op) nn
  | some .x3z3y0 => takeWord rest fun nn => .nX3Z3Y0 nn
  | some .x3z3y23 => takeByte rest fun n => .nX3Z3Y23 (bitsY op) n
  | some .x3z3yhi => .ok (.nX3Z3Yhi (bitsY op)) rest
  | some .x3z4 => .ok (.nX3Z4 (bitsY op)) rest
  | some .x3z5p0 => takeWord rest fun nn => .nX3Z5P0 (bitsQ op) nn
  | some .x3z5q0p => .ok (.nX3Z5Q0p (bitsP op)) rest
  | some .x3z6 => takeByte rest fun n => .nX3Z6 (bitsY op) n
  | some .x3z7 => .ok (.nX3Z7 (bitsY op)) rest
  | some .x3z5q1p => .noRow
  | some .idxX0Z4 => .noRow
  | some .idxX0Z5 => .noRow
  | some .idxX0Z6 => .noRow
  | some .idxX1Z6 => .noRow
  | some .idxX1Y6 => .noRow
  | some .x1y6z6 => .noRow
  | some .idxX2Z6 => .noRow
  | none => .noRow

/-- Format XY under DD (R64): the base opcode is `bytes[1]`; `rest` is what follows it. -/
def decodeDD (op : Byte) (rest : List Byte) : Decoded :=
  match classOf tableXY op with
  | some .x0z0lo => .ok (.ddX0Z0Lo (bitsY op)) rest
  | some .x0z0rel => takeByte rest fun d => .ddX0Z0Rel (bitsY op) d
  | some .x0z1q0 => takeWord rest fun nn => .ddX0Z1Q0 (bitsP op) nn
  | some .x0z1q1 => .ok (.ddX0Z1Q1 (bitsP op)) rest
  | some .x0z2plo => .ok (.ddX0Z2Plo (bitsY op)) rest
  | some .x0z2phi => takeWord rest fun nn => .ddX0Z2Phi (bitsY op) nn
  | some .x0z3 => .ok (.ddX0Z3 (bitsY op)) rest
  | some .x0z4 => .ok (.ddX0Z4 (bitsY op)) rest
  | some .x0z5 => .ok (.ddX0Z5 (bitsY op)) rest
  | some .x0z6 => takeByte rest fun n => .ddX0Z6 (bitsY op) n
  | some .x0z7 => .ok (.ddX0Z7 (bitsY op)) rest
  | some .x1 => .ok (.ddX1 (bitsY op) (bitsZ op)) rest
  | some .x2 => .ok (.ddX2 (bitsY op) (bitsZ op)) rest
  | some .x3z0 => .ok (.ddX3Z0 (bitsY op)) rest
  | some .x3z1 => .ok (.ddX3Z1 (bitsY op)) rest
  | some .x3z2 => takeWord rest fun nn => .ddX3Z2 (bitsY op) nn
  | some .x3z3y0 => takeWord rest fun nn => .ddX3Z3Y0 nn
  | some .x3z3y23 => takeByte rest fun n => .ddX3Z3Y23 (bitsY op) n
  | some .x3z3yhi => .ok (.ddX3Z3Yhi (bitsY op)) rest
  | some .x3z4 => .ok (.ddX3Z4 (bitsY op)) rest
  | some .x3z5p0 => takeWord rest fun nn => .ddX3Z5P0 (bitsQ op) nn
  | some .x3z5q0p => .ok (.ddX3Z5Q0p (bitsP op)) rest
  | some .x3z5q1p => .ok (.ddX3Z5Q1p (bitsP op)) rest
  | some .x3z6 => takeByte rest fun n => .ddX3Z6 (bitsY op) n
  | some .x3z7 => .ok (.ddX3Z7 (bitsY op)) rest
  | some .idxX0Z4 => takeByte rest fun d => .ddIdxX0Z4 d
  | some .idxX0Z5 => takeByte rest fun d => .ddIdxX0Z5 d
  | some .idxX0Z6 => takeTwo rest fun d n => .ddIdxX0Z6 d n
  | some .idxX1Z6 => takeByte rest fun d => .ddIdxX1Z6 (bitsY op) d
  | some .idxX1Y6 => takeByte rest fun d => .ddIdxX1Y6 (bitsZ op) d
  | some .x1y6z6 => .ok .ddX1Y6Z6 rest
  | some .idxX2Z6 => takeByte rest fun d => .ddIdxX2Z6 (bitsY op) d
  | none => .noRow

/-- Format XY under FD (R64, R115): the base opcode is `bytes[1]`; `rest` is what follows it. -/
def decodeFD (op : Byte) (rest : List Byte) : Decoded :=
  match classOf tableXY op with
  | some .x0z0lo => .ok (.fdX0Z0Lo (bitsY op)) rest
  | some .x0z0rel => takeByte rest fun d => .fdX0Z0Rel (bitsY op) d
  | some .x0z1q0 => takeWord rest fun nn => .fdX0Z1Q0 (bitsP op) nn
  | some .x0z1q1 => .ok (.fdX0Z1Q1 (bitsP op)) rest
  | some .x0z2plo => .ok (.fdX0Z2Plo (bitsY op)) rest
  | some .x0z2phi => takeWord rest fun nn => .fdX0Z2Phi (bitsY op) nn
  | some .x0z3 => .ok (.fdX0Z3 (bitsY op)) rest
  | some .x0z4 => .ok (.fdX0Z4 (bitsY op)) rest
  | some .x0z5 => .ok (.fdX0Z5 (bitsY op)) rest
  | some .x0z6 => takeByte rest fun n => .fdX0Z6 (bitsY op) n
  | some .x0z7 => .ok (.fdX0Z7 (bitsY op)) rest
  | some .x1 => .ok (.fdX1 (bitsY op) (bitsZ op)) rest
  | some .x2 => .ok (.fdX2 (bitsY op) (bitsZ op)) rest
  | some .x3z0 => .ok (.fdX3Z0 (bitsY op)) rest
  | some .x3z1 => .ok (.fdX3Z1 (bitsY op)) rest
  | some .x3z2 => takeWord rest fun nn => .fdX3Z2 (bitsY op) nn
  | some .x3z3y0 => takeWord rest fun nn => .fdX3Z3Y0 nn
  | some .x3z3y23 => takeByte rest fun n => .fdX3Z3Y23 (bitsY op) n
  | some .x3z3yhi => .ok (.fdX3Z3Yhi (bitsY op)) rest
  | some .x3z4 => .ok (.fdX3Z4 (bitsY op)) rest
  | some .x3z5p0 => takeWord rest fun nn => .fdX3Z5P0 (bitsQ op) nn
  | some .x3z5q0p => .ok (.fdX3Z5Q0p (bitsP op)) rest
  | some .x3z5q1p => .ok (.fdX3Z5Q1p (bitsP op)) rest
  | some .x3z6 => takeByte rest fun n => .fdX3Z6 (bitsY op) n
  | some .x3z7 => .ok (.fdX3Z7 (bitsY op)) rest
  | some .idxX0Z4 => takeByte rest fun d => .fdIdxX0Z4 d
  | some .idxX0Z5 => takeByte rest fun d => .fdIdxX0Z5 d
  | some .idxX0Z6 => takeTwo rest fun d n => .fdIdxX0Z6 d n
  | some .idxX1Z6 => takeByte rest fun d => .fdIdxX1Z6 (bitsY op) d
  | some .idxX1Y6 => takeByte rest fun d => .fdIdxX1Y6 (bitsZ op) d
  | some .x1y6z6 => .ok .fdX1Y6Z6 rest
  | some .idxX2Z6 => takeByte rest fun d => .fdIdxX2Z6 (bitsY op) d
  | none => .noRow

/-- The formats CB and ED (R62, R63): the base opcode is `bytes[1]`, whatever its value. -/
def decodeTwoByte (rest : List Byte) (k : Byte → Instr) : Decoded := takeByte rest k

/-- The format XYCB after its first two bytes (R65): displacement, then base opcode. -/
def decodeComposite (rest : List Byte) (k : Byte → Byte → Instr) : Decoded := takeTwo rest k

/-- The decoder: the prefix is resolved on the first one or two bytes (R72, R110), then the table. -/
def decode (bytes : List Byte) : Decoded :=
  match bytes with
  | [] => .truncated
  | b0 :: rest =>
    if b0 = Config.cbByte then decodeTwoByte rest fun op => .cbAny op
    else if b0 = Config.edByte then decodeTwoByte rest fun op => .edAny op
    else if b0 = Config.ddByte then
      match rest with
      | [] => .truncated
      | b1 :: rest1 =>
        if b1 = Config.cbByte then decodeComposite rest1 fun d op => .ddcbAny d op else decodeDD b1 rest1
    else if b0 = Config.fdByte then
      match rest with
      | [] => .truncated
      | b1 :: rest1 =>
        if b1 = Config.cbByte then decodeComposite rest1 fun d op => .fdcbAny d op else decodeFD b1 rest1
    else decodeN b0 rest

/-- The bytes of a word, high byte first. -/
def bytesHighFirst (k w : Nat) : List Byte :=
  (List.range k).map fun j => BitVec.ofNat 8 (w >>> (8 * (k - 1 - j)))

/-- The bytes of a word, low byte first. -/
def bytesLowFirst (k w : Nat) : List Byte :=
  (List.range k).map fun j => BitVec.ofNat 8 (w >>> (8 * j))

/-- Zero bytes after the table's bytes, up to the longest instruction. -/
def padToMax (bytes : List Byte) : List Byte :=
  bytes ++ List.replicate (Config.maxLen - bytes.length) 0#8

/-- The stream bytes of a word of the opcode table.  spec/opcode_table.json numbers a row's bits with
`bytes[0]` the MOST significant byte (R82: hex strings, `bytes[0]` first; its "fixed" entries count so).
A word that read so is no instruction of just `nbits` bits is laid out with the first byte least
significant (log entry 4; an interface of the host's, no rule of the block). -/
def tableBytes (nbits w : Nat) : List Byte :=
  let k := nbits / 8
  let high := padToMax (bytesHighFirst k w)
  match decode high with
  | .ok _ rest => if rest.length + k = high.length then high else padToMax (bytesLowFirst k w)
  | .truncated => padToMax (bytesLowFirst k w)
  | .noRow => padToMax (bytesLowFirst k w)

/-- The instruction this decoder reads from a word of the opcode table. -/
def decodeTableWord (nbits w : Nat) : Option Instr :=
  match decode (tableBytes nbits w) with
  | .ok i _ => some i
  | .truncated => none
  | .noRow => none

/-- The stream bytes of an instruction, written from the encodings of the opcode table: prefix bytes,
opcode, operands in the order of R44, a Word low byte first. -/
def encode : Instr → List Byte
  | .nX0Z0Lo y => [opXYZ 0 y 0]
  | .nX0Z0Rel y d => [opXYZ 0 y 0, d]
  | .nX0Z1Q0 p nn => [opXPQZ 0 p 0 1, lowByte nn, highByte nn]
  | .nX0Z1Q1 p => [opXPQZ 0 p 1 1]
  | .nX0Z2Plo y => [opXYZ 0 y 2]
  | .nX0Z2Phi y nn => [opXYZ 0 y 2, lowByte nn, highByte nn]
  | .nX0Z3 y => [opXYZ 0 y 3]
  | .nX0Z4 y => [opXYZ 0 y 4]
  | .nX0Z5 y => [opXYZ 0 y 5]
  | .nX0Z6 y n => [opXYZ 0 y 6, n]
  | .nX0Z7 y => [opXYZ 0 y 7]
  | .nX1 y z => [opXYZ 1 y z]
  | .nX2 y z => [opXYZ 2 y z]
  | .nX3Z0 y => [opXYZ 3 y 0]
  | .nX3Z1 y => [opXYZ 3 y 1]
  | .nX3Z2 y nn => [opXYZ 3 y 2, lowByte nn, highByte nn]
  | .nX3Z3Y0 nn => [opXYZ 3 0 3, lowByte nn, highByte nn]
  | .nX3Z3Y23 y n => [opXYZ 3 y 3, n]
  | .nX3Z3Yhi y => [opXYZ 3 y 3]
  | .nX3Z4 y => [opXYZ 3 y 4]
  | .nX3Z5P0 q nn => [opXPQZ 3 0 q 5, lowByte nn, highByte nn]
  | .nX3Z5Q0p p => [opXPQZ 3 p 0 5]
  | .nX3Z6 y n => [opXYZ 3 y 6, n]
  | .nX3Z7 y => [opXYZ 3 y 7]
  | .ddX0Z0Lo y => [Config.ddByte, opXYZ 0 y 0]
  | .ddX0Z0Rel y d => [Config.ddByte, opXYZ 0 y 0, d]
  | .ddX0Z1Q0 p nn => [Config.ddByte, opXPQZ 0 p 0 1, lowByte nn, highByte nn]
  | .ddX0Z1Q1 p => [Config.ddByte, opXPQZ 0 p 1 1]
  | .ddX0Z2Plo y => [Config.ddByte, opXYZ 0 y 2]
  | .ddX0Z2Phi y nn => [Config.ddByte, opXYZ 0 y 2, lowByte nn, highByte nn]
  | .ddX0Z3 y => [Config.ddByte, opXYZ 0 y 3]
  | .ddX0Z4 y => [Config.ddByte, opXYZ 0 y 4]
  | .ddX0Z5 y => [Config.ddByte, opXYZ 0 y 5]
  | .ddX0Z6 y n => [Config.ddByte, opXYZ 0 y 6, n]
  | .ddX0Z7 y => [Config.ddByte, opXYZ 0 y 7]
  | .ddX1 y z => [Config.ddByte, opXYZ 1 y z]
  | .ddX2 y z => [Config.ddByte, opXYZ 2 y z]
  | .ddX3Z0 y => [Config.ddByte, opXYZ 3 y 0]
  | .ddX3Z1 y => [Config.ddByte, opXYZ 3 y 1]
  | .ddX3Z2 y nn => [Config.ddByte, opXYZ 3 y 2, lowByte nn, highByte nn]
  | .ddX3Z3Y0 nn => [Config.ddByte, opXYZ 3 0 3, lowByte nn, highByte nn]
  | .ddX3Z3Y23 y n => [Config.ddByte, opXYZ 3 y 3, n]
  | .ddX3Z3Yhi y => [Config.ddByte, opXYZ 3 y 3]
  | .ddX3Z4 y => [Config.ddByte, opXYZ 3 y 4]
  | .ddX3Z5P0 q nn => [Config.ddByte, opXPQZ 3 0 q 5, lowByte nn, highByte nn]
  | .ddX3Z5Q0p p => [Config.ddByte, opXPQZ 3 p 0 5]
  | .ddX3Z5Q1p p => [Config.ddByte, opXPQZ 3 p 1 5]
  | .ddX3Z6 y n => [Config.ddByte, opXYZ 3 y 6, n]
  | .ddX3Z7 y => [Config.ddByte, opXYZ 3 y 7]
  | .ddIdxX0Z4 d => [Config.ddByte, opXYZ 0 6 4, d]
  | .ddIdxX0Z5 d => [Config.ddByte, opXYZ 0 6 5, d]
  | .ddIdxX0Z6 d n => [Config.ddByte, opXYZ 0 6 6, d, n]
  | .ddIdxX1Z6 y d => [Config.ddByte, opXYZ 1 y 6, d]
  | .ddIdxX1Y6 z d => [Config.ddByte, opXYZ 1 6 z, d]
  | .ddX1Y6Z6 => [Config.ddByte, opXYZ 1 6 6]
  | .ddIdxX2Z6 y d => [Config.ddByte, opXYZ 2 y 6, d]
  | .fdX0Z0Lo y => [Config.fdByte, opXYZ 0 y 0]
  | .fdX0Z0Rel y d => [Config.fdByte, opXYZ 0 y 0, d]
  | .fdX0Z1Q0 p nn => [Config.fdByte, opXPQZ 0 p 0 1, lowByte nn, highByte nn]
  | .fdX0Z1Q1 p => [Config.fdByte, opXPQZ 0 p 1 1]
  | .fdX0Z2Plo y => [Config.fdByte, opXYZ 0 y 2]
  | .fdX0Z2Phi y nn => [Config.fdByte, opXYZ 0 y 2, lowByte nn, highByte nn]
  | .fdX0Z3 y => [Config.fdByte, opXYZ 0 y 3]
  | .fdX0Z4 y => [Config.fdByte, opXYZ 0 y 4]
  | .fdX0Z5 y => [Config.fdByte, opXYZ 0 y 5]
  | .fdX0Z6 y n => [Config.fdByte, opXYZ 0 y 6, n]
  | .fdX0Z7 y => [Config.fdByte, opXYZ 0 y 7]
  | .fdX1 y z => [Config.fdByte, opXYZ 1 y z]
  | .fdX2 y z => [Config.fdByte, opXYZ 2 y z]
  | .fdX3Z0 y => [Config.fdByte, opXYZ 3 y 0]
  | .fdX3Z1 y => [Config.fdByte, opXYZ 3 y 1]
  | .fdX3Z2 y nn => [Config.fdByte, opXYZ 3 y 2, lowByte nn, highByte nn]
  | .fdX3Z3Y0 nn => [Config.fdByte, opXYZ 3 0 3, lowByte nn, highByte nn]
  | .fdX3Z3Y23 y n => [Config.fdByte, opXYZ 3 y 3, n]
  | .fdX3Z3Yhi y => [Config.fdByte, opXYZ 3 y 3]
  | .fdX3Z4 y => [Config.fdByte, opXYZ 3 y 4]
  | .fdX3Z5P0 q nn => [Config.fdByte, opXPQZ 3 0 q 5, lowByte nn, highByte nn]
  | .fdX3Z5Q0p p => [Config.fdByte, opXPQZ 3 p 0 5]
  | .fdX3Z5Q1p p => [Config.fdByte, opXPQZ 3 p 1 5]
  | .fdX3Z6 y n => [Config.fdByte, opXYZ 3 y 6, n]
  | .fdX3Z7 y => [Config.fdByte, opXYZ 3 y 7]
  | .fdIdxX0Z4 d => [Config.fdByte, opXYZ 0 6 4, d]
  | .fdIdxX0Z5 d => [Config.fdByte, opXYZ 0 6 5, d]
  | .fdIdxX0Z6 d n => [Config.fdByte, opXYZ 0 6 6, d, n]
  | .fdIdxX1Z6 y d => [Config.fdByte, opXYZ 1 y 6, d]
  | .fdIdxX1Y6 z d => [Config.fdByte, opXYZ 1 6 z, d]
  | .fdX1Y6Z6 => [Config.fdByte, opXYZ 1 6 6]
  | .fdIdxX2Z6 y d => [Config.fdByte, opXYZ 2 y 6, d]
  | .cbAny op => [Config.cbByte, op]
  | .edAny op => [Config.edByte, op]
  | .ddcbAny d op => [Config.ddByte, Config.cbByte, d, op]
  | .fdcbAny d op => [Config.fdByte, Config.cbByte, d, op]

end Sys2Proof
end

