-- ==== Sys2Proof/Machine/Flags.lean ====
section
/-! DEFINITION. The block has no flag and no condition code (R22).  What it has in their place are the
status and presence bits of its output ports; this file gives every output port its value (R32,
92 D3 to D6). -/

namespace Sys2Proof

/-- R32, 92 D3: the code of a prefix kind on the port `prefix`. -/
def prefixCodeOf : PrefixKind → BitVec 3
  | .none => 0
  | .cb => 1
  | .dd => 2
  | .ed => 3
  | .fd => 4
  | .ddcb => 5
  | .fdcb => 6

/-- R32: `disp_present` and `disp`; an absent displacement reads 0x00 (92 D5). -/
def dispPresentOf : Option Int → BitVec 1
  | some _ => 1
  | none => 0

def dispOf : Option Int → BitVec 8
  | some d => BitVec.ofInt 8 d
  | none => 0

/-- R32, 92 D4: `imm_kind`, 0 none, 1 Byte, 2 Word. -/
def immKindOf : Option Immediate → BitVec 2
  | none => 0
  | some (.byte _) => 1
  | some (.word _) => 2

/-- R32, 92 D5: `imm`, a Byte zero-extended, 0x0000 when absent. -/
def immOf : Option Immediate → BitVec 16
  | none => 0
  | some (.byte n) => n.setWidth 16
  | some (.word nn) => nn

/-- R32: the ports when the result is a record; `op_x` to `op_q` are wires of `op_raw`. -/
def outputsOfRecord (r : Record) : Outputs :=
  { status := 0
    prefixCode := prefixCodeOf r.prefixKind
    opRaw := r.opcode.raw
    opX := r.opcode.raw.extractLsb' 6 2
    opY := r.opcode.raw.extractLsb' 3 3
    opZ := r.opcode.raw.extractLsb' 0 3
    opP := r.opcode.raw.extractLsb' 4 2
    opQ := r.opcode.raw.extractLsb' 3 1
    dispPresent := dispPresentOf r.displacement
    disp := dispOf r.displacement
    immKind := immKindOf r.immediate
    imm := immOf r.immediate
    length := BitVec.ofNat 3 r.length }

/-- R32, 92 D6: the ports when the result is Truncated: `status` 1 and every other output 0. -/
def outputsOfTruncated : Outputs :=
  { status := 1, prefixCode := 0, opRaw := 0, opX := 0, opY := 0, opZ := 0, opP := 0, opQ := 0
    dispPresent := 0, disp := 0, immKind := 0, imm := 0, length := 0 }

/-- R32: the output ports that carry a result. -/
def outputsOf : DecodeResult → Outputs
  | .ok r => outputsOfRecord r
  | .err .truncated => outputsOfTruncated

end Sys2Proof
end

