-- ==== Sys2Proof/Machine/Operands.lean ====
section
/-! DEFINITION. The operand-length lookup (42_operand_length.md R130, R160) and the operand fetch with
record assembly (43_record_assembly.md R190 to R195): every operand form the spec gives. -/

namespace Sys2Proof

/-- R130: UTABLE(f), the unprefixed table, keyed on the sub-fields as the rule's pseudocode is; each
"nothing" line there is a rule of its own, named in the comments (R248). -/
def utable (f : OpcodeByte) : Shape :=
  if f.x = 0 then
    if f.z = 0 ∧ 4 ≤ f.y.toNat then ⟨1, .none⟩                -- R132
    else if f.z = 1 ∧ f.q = 0 then ⟨0, .word⟩                 -- R133
    else if f.z = 2 ∧ 2 ≤ f.p.toNat then ⟨0, .word⟩           -- R136
    else if f.z = 6 then ⟨0, .byte⟩                           -- R140
    else ⟨0, .none⟩                                           -- R131 R134 R135 R137 R138 R139 R141
  else if f.x = 3 then
    if f.z = 2 then ⟨0, .word⟩                                -- R146
    else if f.z = 3 ∧ f.y = 0 then ⟨0, .word⟩                 -- R147
    else if f.z = 3 ∧ (f.y = 2 ∨ f.y = 3) then ⟨0, .byte⟩     -- R149
    else if f.z = 5 ∧ f.p = 0 then ⟨0, .word⟩                 -- R152
    else if f.z = 6 then ⟨0, .byte⟩                           -- R155
    else ⟨0, .none⟩                                           -- R144 R145 R148 R150 R151 R153 R154 R156
  else ⟨0, .none⟩                                             -- x in {1,2}: R142 R143

/-- R130, R160: IDX(f), the indexed forms, used under DD and FD only (92 D8). -/
def idx (f : OpcodeByte) : Bool :=
  (f.x == 0 && f.y == 6 && (f.z == 4 || f.z == 5 || f.z == 6))     -- R161 R162 R163
  || (f.x == 1 && ((f.y == 6) != (f.z == 6)))                      -- R164 R165 R166
  || (f.x == 2 && f.z == 6)                                        -- R167

/-- R130: SHAPE(prefix, f). -/
def shape (kind : PrefixKind) (f : OpcodeByte) : Shape :=
  match kind with
  | .cb | .ed | .ddcb | .fdcb => ⟨0, .none⟩                        -- R170 R171 R172
  | .dd | .fd => if idx f then ⟨1, (utable f).imm⟩ else utable f   -- R160
  | .none => utable f

/-- R190: how many immediate bytes a shape calls for. -/
def immBytes : ImmKind → Nat
  | .none => 0
  | .byte => 1
  | .word => 2

/-- R190, R195: the instruction length `L = pos0 + d + (0, 1 or 2)` with `pos0 = bi + 1`. -/
def recordLength (bi : Nat) (sh : Shape) : Nat := bi + 1 + sh.d + immBytes sh.imm

/-- R192: the displacement after the opcode, or the dispatcher's, or none. -/
def fetchDisplacement (bytes : List Byte) (p : PrefixOut) (sh : Shape) : Option Int :=
  if sh.d = 1 then (bytes[p.bi + 1]?).map sext8 else p.pd

/-- R193: the immediate, after the displacement when the shape has one (R66). -/
def fetchImmediate (bytes : List Byte) (p : PrefixOut) (sh : Shape) : Option Immediate :=
  let ii := p.bi + 1 + sh.d
  match sh.imm with
  | .none => none
  | .byte => (bytes[ii]?).map Immediate.byte
  | .word =>
    match bytes[ii]?, bytes[ii + 1]? with
    | some low, some high => some (.word (joinWord low high))
    | _, _ => none

/-- R191 to R195: one test of the length against the bytes present, and then the record whole. -/
def assemble (bytes : List Byte) (p : PrefixOut) (f : OpcodeByte) : DecodeResult :=
  let sh := shape p.kind f
  if bytes.length < recordLength p.bi sh then .err .truncated
  else .ok ⟨p.kind, f, fetchDisplacement bytes p sh, fetchImmediate bytes p sh, recordLength p.bi sh⟩

end Sys2Proof
end

