-- ==== Sys2Proof/Machine/PrefixDispatch.lean ====
section
/-! DEFINITION. The prefix dispatcher, step 1 of DECODE (41_prefix_dispatch.md). -/

namespace Sys2Proof

/-- R110: PREFIX(bytes).  Every byte is looked at only after its presence is known (R118, 92 D17):
the length tests are the list patterns, in stream order. -/
def prefixDispatch (bytes : List Byte) : Result PrefixOut :=
  match bytes with
  | [] => .err .truncated
  | b0 :: rest =>
    if b0 = Config.cbByte then
      match rest with
      | [] => .err .truncated
      | _ :: _ => .ok ⟨.cb, 1, none⟩
    else if b0 = Config.edByte then
      match rest with
      | [] => .err .truncated
      | _ :: _ => .ok ⟨.ed, 1, none⟩
    else if b0 = Config.ddByte ∨ b0 = Config.fdByte then
      match rest with
      | [] => .err .truncated
      | b1 :: rest1 =>
        if b1 = Config.cbByte then
          match rest1 with
          | d :: _ :: _ => .ok ⟨if b0 = Config.ddByte then .ddcb else .fdcb, 3, some (sext8 d)⟩
          | _ => .err .truncated
        else .ok ⟨if b0 = Config.ddByte then .dd else .fd, 1, none⟩
    else .ok ⟨.none, 0, none⟩

end Sys2Proof
end

