-- ==== Sys2Proof/Machine/Block.lean ====
section
/-! DEFINITION. The block as a function: DECODE (R197), the input ports (R31) and the whole block at
its ports (R32), and the caller's walk of a stream (R204, R205). -/

namespace Sys2Proof

/-- R197: DECODE(bytes).  `bytes[bi]` is there whenever the dispatcher answers (R119). -/
def decodeBlock (bytes : List Byte) : DecodeResult :=
  match prefixDispatch bytes with
  | .err e => .err e
  | .ok p =>
    match bytes[p.bi]? with
    | none => .err .truncated
    | some b => assemble bytes p (classify b)

/-- R31: the bytes the input ports present: the first `min(avail, 4)` of `win`; the others are not
looked at. -/
def inputBytes (win : Window) (avail : BitVec 3) : List Byte :=
  [win.b0, win.b1, win.b2, win.b3].take (min avail.toNat Config.window)

/-- R31, R32: the whole block, from input ports to output ports. -/
def evalPorts (win : Window) (avail : BitVec 3) : Outputs := outputsOf (decodeBlock (inputBytes win avail))

/-- R205: how a walk ends, with the offset it ends at.  `unfinished` is the answer of the model's fuel
and no end of the spec's; a statement says it is never given with fuel for every byte. -/
inductive WalkEnd where
  | clean (off : Nat)
  | truncated (off : Nat)
  | unfinished (off : Nat)
deriving DecidableEq, Repr

/-- R204, R205: the caller's WALK of the bytes from `off` on: evaluate DECODE, advance by `length` on a
record, stop on Truncated or at the end of the stream. -/
def walkFuel : Nat → List Byte → Nat → List Record × WalkEnd
  | fuel, bytes, off =>
    match bytes with
    | [] => ([], .clean off)
    | _ :: _ =>
      match fuel with
      | 0 => ([], .unfinished off)
      | fuel + 1 =>
        match decodeBlock bytes with
        | .err .truncated => ([], .truncated off)
        | .ok r =>
          let w := walkFuel fuel (bytes.drop r.length) (off + r.length)
          (r :: w.1, w.2)

/-- R204, R205: WALK of the bytes from `off` on, every record taking at least one byte (R196). -/
def walk (bytes : List Byte) (off : Nat) : List Record × WalkEnd := walkFuel bytes.length bytes off

end Sys2Proof
end

