-- ==== Sys2Proof/Machine/State.lean ====
section
/-! DEFINITION. The state of the machine.  The block itself keeps nothing (R20 to R24).  What changes
from one evaluation to the next, and what State holds, is what stands around it in the spec: the
caller's stream and offset (R40, R41, R204), the input ports the block sees (R31), and the result the
caller took from the output ports at the latest evaluation (R32, R8). -/

namespace Sys2Proof.Machine

/-- R40, R41: the byte stream, as (address, byte) pairs.  Canonical form: addresses strictly rising
(`Memory.wf`).  An address that is not listed does not exist: the stream has no byte there and reading
it gives nothing (R41, R214). -/
abbrev Memory := List Host.Cell

structure State where
  /-- R40: the caller's stream S. -/
  stream : Memory
  /-- R204: the caller's offset `off`, a natural number with no fixed width. -/
  off : Nat
  /-- R31: the input port `win`. -/
  win : Window
  /-- R31: the input port `avail`, three wires. -/
  avail : BitVec 3
  /-- R32, R8: the result of the latest evaluation, as the output ports carried it. -/
  result : DecodeResult
deriving DecidableEq, Repr

/-- Nothing stops this machine with a fault: no input makes the block stop without a result (R213),
and its one error, Truncated, is the value of an evaluation that ends normally (R12, R210, R222).  So
there is no constructor, and no meaning can raise one (safe: nothing is hidden by it). -/
inductive Fault
deriving DecidableEq, Repr

/-- Why a step could be refused. -/
inductive Refusal where
  /-- An instruction without a meaning yet, raised by an arm of `exec` only (safe).  No arm raises it. -/
  | notModelled (mnemonic : String)
  /-- A base opcode without a row of the opcode table, raised by `step` when the decoder answers
  `noRow` (safe).  R75 and R173 say there is none; a statement says `step` never refuses. -/
  | noTableRow
deriving DecidableEq, Repr

/-- Right after reset.  The block has nothing to reset (R33, R240).  The caller's side is the model's
choice (log entries 5 and 6): no stream yet, offset 0, `win` all zero and `avail` 0, which R33 itself
names ("with `avail = 0` that is `status` = TRUNCATED"), and so the result Truncated. -/
def State.reset : State :=
  { stream := []
    off := 0
    win := ⟨0, 0, 0, 0⟩
    avail := 0
    result := .err .truncated }

end Sys2Proof.Machine
end

