-- ==== Sys2Proof/Machine/Ops.lean ====
section
/-! DEFINITION. The named operations: reading and writing the stream, presenting it at the input ports
(R31, R41), delivering a record (R199, R204), reporting Truncated (R210 to R222), and what the caller
may do between evaluations (R242, R243, R223, R53). -/

namespace Sys2Proof.Machine

/-! ### The stream -/

/-- The canonical form of a stream: addresses strictly rising. -/
abbrev Memory.wf (m : Memory) : Prop := (m.map Prod.fst).Pairwise (· < ·)

/-- R41: the byte at an address, none where the stream has no byte. -/
def Memory.read (m : Memory) (a : Nat) : Option Byte :=
  match m with
  | [] => none
  | (k, b) :: rest => if k = a then some b else Memory.read rest a

/-- Puts one byte at an address, keeping the canonical form. -/
def Memory.write (m : Memory) (a : Nat) (b : Byte) : Memory :=
  match m with
  | [] => [(a, b)]
  | (k, c) :: rest =>
    if a < k then (a, b) :: (k, c) :: rest
    else if a = k then (a, b) :: rest
    else (k, c) :: Memory.write rest a b

/-- Puts bytes at consecutive addresses. -/
def Memory.writeBytes (m : Memory) (a : Nat) (bytes : List Byte) : Memory :=
  match bytes with
  | [] => m
  | b :: rest => Memory.writeBytes (m.write a b) (a + 1) rest

/-- The first `k` bytes from an address on, fewer where the stream ends (R41: `bytes[i] = S[off + i]`). -/
def Memory.bytesAt (m : Memory) (a : Nat) : Nat → List Byte
  | 0 => []
  | k + 1 =>
    match m.read a with
    | none => []
    | some b => b :: Memory.bytesAt m (a + 1) k

/-- The stream of a byte sequence, from address 0 on (R40). -/
def Memory.ofBytes (bytes : List Byte) : Memory := Memory.writeBytes [] 0 bytes

/-- R40: the stream is a finite sequence: its addresses are 0, 1, 2, … without a gap. -/
abbrev Memory.isSequence (m : Memory) : Prop := m.map Prod.fst = List.range m.length

/-- The address after the last listed one. -/
def Memory.endAddr (m : Memory) : Nat :=
  match m with
  | [] => 0
  | (k, _) :: rest => max (k + 1) (Memory.endAddr rest)

/-- R41: the remaining stream S[off ..], all of it. -/
def State.remaining (s : State) : List Byte := s.stream.bytesAt s.off s.stream.length

/-! ### The input ports -/

/-- New bytes on the wires of `win`; a wire for which there is no byte keeps its old value, stale and
not looked at (R31, R243; log entry 7). -/
def refill (old : Window) (bytes : List Byte) : Window :=
  { b0 := bytes[0]?.getD old.b0
    b1 := bytes[1]?.getD old.b1
    b2 := bytes[2]?.getD old.b2
    b3 := bytes[3]?.getD old.b3 }

/-- R31, R41, R243 (3): the caller shows the stream from its offset on at `win` and says at `avail` how
many bytes remain, 4 for four or more. -/
def present (s : State) : State :=
  let bytes := s.stream.bytesAt s.off Config.window
  { s with win := refill s.win bytes, avail := BitVec.ofNat 3 bytes.length }

/-- R31: the bytes the block sees now. -/
def State.input (s : State) : List Byte := inputBytes s.win s.avail

/-- R32: what the output ports carry now: a function of the input ports alone. -/
def State.outputs (s : State) : Outputs := evalPorts s.win s.avail

/-- R32: what the output ports carried at the latest evaluation. -/
def State.sampledOutputs (s : State) : Outputs := outputsOf s.result

/-! ### The end of an evaluation -/

/-- R197, R204: the evaluation ends with a record; the caller takes it, advances its offset by the
record's length and presents the stream from there.  The stream itself is not written (R42). -/
def deliver (r : Record) (s : State) : State :=
  present { s with result := .ok r, off := s.off + r.length }

/-- R210, R222: the evaluation ends with Truncated.  Nothing is saved, no mode changes, control goes
nowhere and the offset stays, for the caller advances only on a record (R204).  There is no return
from it (R223): the next evaluation starts again from what the ports then show. -/
def reportTruncated (s : State) : State := { s with result := .err .truncated }

/-! ### What the caller may do between evaluations -/

/-- R243, R242: the caller holds a new stream and starts at its first byte. -/
def State.load (s : State) (bytes : List Byte) : State :=
  present { s with stream := Memory.ofBytes bytes, off := 0 }

/-- R242, R244: the caller chooses another offset, an instruction's first byte or not. -/
def State.seek (s : State) (off : Nat) : State := present { s with off := off }

/-- R223, R205: the caller gets more bytes at the end of the stream. -/
def State.supply (s : State) (bytes : List Byte) : State :=
  present { s with stream := s.stream.writeBytes s.stream.endAddr bytes }

/-- R53: a byte of the caller's buffer is rewritten between two evaluations; an address without a byte
stays without one. -/
def State.rewrite (s : State) (a : Nat) (b : Byte) : State :=
  match s.stream.read a with
  | none => s
  | some _ => present { s with stream := s.stream.write a b }

/-- R31: the input ports are driven as they are, past the stream (`avail` 5 to 7 and stale bytes
included). -/
def State.drive (s : State) (win : Window) (avail : BitVec 3) : State :=
  { s with win := win, avail := avail }

/-- The fetch: the table decoder on the bytes the input ports present. -/
def fetch (s : State) : Decoded := decode s.input

/-- Bytes placed in the stream where the next evaluation looks, and presented there. -/
def placeAtOffset (s : State) (bytes : List Byte) : State :=
  present { s with stream := s.stream.writeBytes s.off bytes }

end Sys2Proof.Machine
end

