-- ==== Sys2Proof/Machine/FormatCbEd.lean ====
section
/-! DEFINITION. Meanings of the formats CB, ED and XYCB (R62, R63, R65, R170 to R172). Each meaning delivers the record of its row: prefix kind, classified base opcode, displacement, immediate and length (R199, R200), and the caller advances by that length (R204). -/

namespace Sys2Proof.Machine

/-- CB.ANY (R170): nothing. -/
def execCbAny (op : Byte) (s : State) : Host.Outcome State Fault Refusal :=
  .next (deliver ⟨.cb, classify op, none, none, 2⟩ s)

/-- ED.ANY (R171): nothing. -/
def execEdAny (op : Byte) (s : State) : Host.Outcome State Fault Refusal :=
  .next (deliver ⟨.ed, classify op, none, none, 2⟩ s)

/-- DDCB.ANY (R172): displacement at index 2, nothing further. -/
def execDdcbAny (d op : Byte) (s : State) : Host.Outcome State Fault Refusal :=
  .next (deliver ⟨.ddcb, classify op, some (sext8 d), none, 4⟩ s)

/-- FDCB.ANY (R172): displacement at index 2, nothing further. -/
def execFdcbAny (d op : Byte) (s : State) : Host.Outcome State Fault Refusal :=
  .next (deliver ⟨.fdcb, classify op, some (sext8 d), none, 4⟩ s)

end Sys2Proof.Machine
end

