-- ==== Sys2Proof/Machine/FormatDD.lean ====
section
/-! DEFINITION. Meanings of the instructions of format XY under the prefix DD (R64, R131 to R167). Each meaning delivers the record of its row: prefix kind, classified base opcode, displacement, immediate and length (R199, R200), and the caller advances by that length (R204). -/

namespace Sys2Proof.Machine

/-- DD.X0Z0.LO (R131): nothing. -/
def execDdX0Z0Lo (y : BitVec 3) (s : State) : Host.Outcome State Fault Refusal :=
  .next (deliver ⟨.dd, classify (opXYZ 0 y 0), none, none, 2⟩ s)

/-- DD.X0Z0.REL (R132): displacement. -/
def execDdX0Z0Rel (y : BitVec 3) (d : Byte) (s : State) : Host.Outcome State Fault Refusal :=
  .next (deliver ⟨.dd, classify (opXYZ 0 y 0), some (sext8 d), none, 3⟩ s)

/-- DD.X0Z1.Q0 (R133): Word. -/
def execDdX0Z1Q0 (p : BitVec 2) (nn : Word16) (s : State) : Host.Outcome State Fault Refusal :=
  .next (deliver ⟨.dd, classify (opXPQZ 0 p 0 1), none, some (.word nn), 4⟩ s)

/-- DD.X0Z1.Q1 (R134): nothing. -/
def execDdX0Z1Q1 (p : BitVec 2) (s : State) : Host.Outcome State Fault Refusal :=
  .next (deliver ⟨.dd, classify (opXPQZ 0 p 1 1), none, none, 2⟩ s)

/-- DD.X0Z2.PLO (R135): nothing. -/
def execDdX0Z2Plo (y : BitVec 3) (s : State) : Host.Outcome State Fault Refusal :=
  .next (deliver ⟨.dd, classify (opXYZ 0 y 2), none, none, 2⟩ s)

/-- DD.X0Z2.PHI (R136): Word. -/
def execDdX0Z2Phi (y : BitVec 3) (nn : Word16) (s : State) : Host.Outcome State Fault Refusal :=
  .next (deliver ⟨.dd, classify (opXYZ 0 y 2), none, some (.word nn), 4⟩ s)

/-- DD.X0Z3 (R137): nothing. -/
def execDdX0Z3 (y : BitVec 3) (s : State) : Host.Outcome State Fault Refusal :=
  .next (deliver ⟨.dd, classify (opXYZ 0 y 3), none, none, 2⟩ s)

/-- DD.X0Z4 (R138): nothing. -/
def execDdX0Z4 (y : BitVec 3) (s : State) : Host.Outcome State Fault Refusal :=
  .next (deliver ⟨.dd, classify (opXYZ 0 y 4), none, none, 2⟩ s)

/-- DD.X0Z5 (R139): nothing. -/
def execDdX0Z5 (y : BitVec 3) (s : State) : Host.Outcome State Fault Refusal :=
  .next (deliver ⟨.dd, classify (opXYZ 0 y 5), none, none, 2⟩ s)

/-- DD.X0Z6 (R140): Byte. -/
def execDdX0Z6 (y : BitVec 3) (n : Byte) (s : State) : Host.Outcome State Fault Refusal :=
  .next (deliver ⟨.dd, classify (opXYZ 0 y 6), none, some (.byte n), 3⟩ s)

/-- DD.X0Z7 (R141): nothing. -/
def execDdX0Z7 (y : BitVec 3) (s : State) : Host.Outcome State Fault Refusal :=
  .next (deliver ⟨.dd, classify (opXYZ 0 y 7), none, none, 2⟩ s)

/-- DD.X1 (R142): nothing. -/
def execDdX1 (y z : BitVec 3) (s : State) : Host.Outcome State Fault Refusal :=
  .next (deliver ⟨.dd, classify (opXYZ 1 y z), none, none, 2⟩ s)

/-- DD.X2 (R143): nothing. -/
def execDdX2 (y z : BitVec 3) (s : State) : Host.Outcome State Fault Refusal :=
  .next (deliver ⟨.dd, classify (opXYZ 2 y z), none, none, 2⟩ s)

/-- DD.X3Z0 (R144): nothing. -/
def execDdX3Z0 (y : BitVec 3) (s : State) : Host.Outcome State Fault Refusal :=
  .next (deliver ⟨.dd, classify (opXYZ 3 y 0), none, none, 2⟩ s)

/-- DD.X3Z1 (R145): nothing. -/
def execDdX3Z1 (y : BitVec 3) (s : State) : Host.Outcome State Fault Refusal :=
  .next (deliver ⟨.dd, classify (opXYZ 3 y 1), none, none, 2⟩ s)

/-- DD.X3Z2 (R146): Word. -/
def execDdX3Z2 (y : BitVec 3) (nn : Word16) (s : State) : Host.Outcome State Fault Refusal :=
  .next (deliver ⟨.dd, classify (opXYZ 3 y 2), none, some (.word nn), 4⟩ s)

/-- DD.X3Z3.Y0 (R147): Word. -/
def execDdX3Z3Y0 (nn : Word16) (s : State) : Host.Outcome State Fault Refusal :=
  .next (deliver ⟨.dd, classify (opXYZ 3 0 3), none, some (.word nn), 4⟩ s)

/-- DD.X3Z3.Y23 (R149): Byte. -/
def execDdX3Z3Y23 (y : BitVec 3) (n : Byte) (s : State) : Host.Outcome State Fault Refusal :=
  .next (deliver ⟨.dd, classify (opXYZ 3 y 3), none, some (.byte n), 3⟩ s)

/-- DD.X3Z3.YHI (R150): nothing. -/
def execDdX3Z3Yhi (y : BitVec 3) (s : State) : Host.Outcome State Fault Refusal :=
  .next (deliver ⟨.dd, classify (opXYZ 3 y 3), none, none, 2⟩ s)

/-- DD.X3Z4 (R151): nothing. -/
def execDdX3Z4 (y : BitVec 3) (s : State) : Host.Outcome State Fault Refusal :=
  .next (deliver ⟨.dd, classify (opXYZ 3 y 4), none, none, 2⟩ s)

/-- DD.X3Z5.P0 (R152): Word. -/
def execDdX3Z5P0 (q : BitVec 1) (nn : Word16) (s : State) : Host.Outcome State Fault Refusal :=
  .next (deliver ⟨.dd, classify (opXPQZ 3 0 q 5), none, some (.word nn), 4⟩ s)

/-- DD.X3Z5.Q0P (R153): nothing. -/
def execDdX3Z5Q0p (p : BitVec 2) (s : State) : Host.Outcome State Fault Refusal :=
  .next (deliver ⟨.dd, classify (opXPQZ 3 p 0 5), none, none, 2⟩ s)

/-- DD.X3Z5.Q1P (R154): nothing. -/
def execDdX3Z5Q1p (p : BitVec 2) (s : State) : Host.Outcome State Fault Refusal :=
  .next (deliver ⟨.dd, classify (opXPQZ 3 p 1 5), none, none, 2⟩ s)

/-- DD.X3Z6 (R155): Byte. -/
def execDdX3Z6 (y : BitVec 3) (n : Byte) (s : State) : Host.Outcome State Fault Refusal :=
  .next (deliver ⟨.dd, classify (opXYZ 3 y 6), none, some (.byte n), 3⟩ s)

/-- DD.X3Z7 (R156): nothing. -/
def execDdX3Z7 (y : BitVec 3) (s : State) : Host.Outcome State Fault Refusal :=
  .next (deliver ⟨.dd, classify (opXYZ 3 y 7), none, none, 2⟩ s)

/-- DD.IDX.X0Z4 (R161): displacement. -/
def execDdIdxX0Z4 (d : Byte) (s : State) : Host.Outcome State Fault Refusal :=
  .next (deliver ⟨.dd, classify (opXYZ 0 6 4), some (sext8 d), none, 3⟩ s)

/-- DD.IDX.X0Z5 (R162): displacement. -/
def execDdIdxX0Z5 (d : Byte) (s : State) : Host.Outcome State Fault Refusal :=
  .next (deliver ⟨.dd, classify (opXYZ 0 6 5), some (sext8 d), none, 3⟩ s)

/-- DD.IDX.X0Z6 (R163): displacement, then Byte. -/
def execDdIdxX0Z6 (d n : Byte) (s : State) : Host.Outcome State Fault Refusal :=
  .next (deliver ⟨.dd, classify (opXYZ 0 6 6), some (sext8 d), some (.byte n), 4⟩ s)

/-- DD.IDX.X1Z6 (R164): displacement. -/
def execDdIdxX1Z6 (y : BitVec 3) (d : Byte) (s : State) : Host.Outcome State Fault Refusal :=
  .next (deliver ⟨.dd, classify (opXYZ 1 y 6), some (sext8 d), none, 3⟩ s)

/-- DD.IDX.X1Y6 (R165): displacement. -/
def execDdIdxX1Y6 (z : BitVec 3) (d : Byte) (s : State) : Host.Outcome State Fault Refusal :=
  .next (deliver ⟨.dd, classify (opXYZ 1 6 z), some (sext8 d), none, 3⟩ s)

/-- DD.X1.Y6Z6 (R166): nothing. -/
def execDdX1Y6Z6 (s : State) : Host.Outcome State Fault Refusal :=
  .next (deliver ⟨.dd, classify (opXYZ 1 6 6), none, none, 2⟩ s)

/-- DD.IDX.X2Z6 (R167): displacement. -/
def execDdIdxX2Z6 (y : BitVec 3) (d : Byte) (s : State) : Host.Outcome State Fault Refusal :=
  .next (deliver ⟨.dd, classify (opXYZ 2 y 6), some (sext8 d), none, 3⟩ s)

end Sys2Proof.Machine
end

