-- ==== Sys2Proof/Machine/FormatN.lean ====
section
/-! DEFINITION. Meanings of the instructions of format N, prefix kind none (R61, R131 to R156). Each meaning delivers the record of its row: prefix kind, classified base opcode, displacement, immediate and length (R199, R200), and the caller advances by that length (R204). -/

namespace Sys2Proof.Machine

/-- N.X0Z0.LO (R131): nothing. -/
def execNX0Z0Lo (y : BitVec 3) (s : State) : Host.Outcome State Fault Refusal :=
  .next (deliver ⟨.none, classify (opXYZ 0 y 0), none, none, 1⟩ s)

/-- N.X0Z0.REL (R132): displacement. -/
def execNX0Z0Rel (y : BitVec 3) (d : Byte) (s : State) : Host.Outcome State Fault Refusal :=
  .next (deliver ⟨.none, classify (opXYZ 0 y 0), some (sext8 d), none, 2⟩ s)

/-- N.X0Z1.Q0 (R133): Word. -/
def execNX0Z1Q0 (p : BitVec 2) (nn : Word16) (s : State) : Host.Outcome State Fault Refusal :=
  .next (deliver ⟨.none, classify (opXPQZ 0 p 0 1), none, some (.word nn), 3⟩ s)

/-- N.X0Z1.Q1 (R134): nothing. -/
def execNX0Z1Q1 (p : BitVec 2) (s : State) : Host.Outcome State Fault Refusal :=
  .next (deliver ⟨.none, classify (opXPQZ 0 p 1 1), none, none, 1⟩ s)

/-- N.X0Z2.PLO (R135): nothing. -/
def execNX0Z2Plo (y : BitVec 3) (s : State) : Host.Outcome State Fault Refusal :=
  .next (deliver ⟨.none, classify (opXYZ 0 y 2), none, none, 1⟩ s)

/-- N.X0Z2.PHI (R136): Word. -/
def execNX0Z2Phi (y : BitVec 3) (nn : Word16) (s : State) : Host.Outcome State Fault Refusal :=
  .next (deliver ⟨.none, classify (opXYZ 0 y 2), none, some (.word nn), 3⟩ s)

/-- N.X0Z3 (R137): nothing. -/
def execNX0Z3 (y : BitVec 3) (s : State) : Host.Outcome State Fault Refusal :=
  .next (deliver ⟨.none, classify (opXYZ 0 y 3), none, none, 1⟩ s)

/-- N.X0Z4 (R138): nothing. -/
def execNX0Z4 (y : BitVec 3) (s : State) : Host.Outcome State Fault Refusal :=
  .next (deliver ⟨.none, classify (opXYZ 0 y 4), none, none, 1⟩ s)

/-- N.X0Z5 (R139): nothing. -/
def execNX0Z5 (y : BitVec 3) (s : State) : Host.Outcome State Fault Refusal :=
  .next (deliver ⟨.none, classify (opXYZ 0 y 5), none, none, 1⟩ s)

/-- N.X0Z6 (R140): Byte. -/
def execNX0Z6 (y : BitVec 3) (n : Byte) (s : State) : Host.Outcome State Fault Refusal :=
  .next (deliver ⟨.none, classify (opXYZ 0 y 6), none, some (.byte n), 2⟩ s)

/-- N.X0Z7 (R141): nothing. -/
def execNX0Z7 (y : BitVec 3) (s : State) : Host.Outcome State Fault Refusal :=
  .next (deliver ⟨.none, classify (opXYZ 0 y 7), none, none, 1⟩ s)

/-- N.X1 (R142): nothing. -/
def execNX1 (y z : BitVec 3) (s : State) : Host.Outcome State Fault Refusal :=
  .next (deliver ⟨.none, classify (opXYZ 1 y z), none, none, 1⟩ s)

/-- N.X2 (R143): nothing. -/
def execNX2 (y z : BitVec 3) (s : State) : Host.Outcome State Fault Refusal :=
  .next (deliver ⟨.none, classify (opXYZ 2 y z), none, none, 1⟩ s)

/-- N.X3Z0 (R144): nothing. -/
def execNX3Z0 (y : BitVec 3) (s : State) : Host.Outcome State Fault Refusal :=
  .next (deliver ⟨.none, classify (opXYZ 3 y 0), none, none, 1⟩ s)

/-- N.X3Z1 (R145): nothing. -/
def execNX3Z1 (y : BitVec 3) (s : State) : Host.Outcome State Fault Refusal :=
  .next (deliver ⟨.none, classify (opXYZ 3 y 1), none, none, 1⟩ s)

/-- N.X3Z2 (R146): Word. -/
def execNX3Z2 (y : BitVec 3) (nn : Word16) (s : State) : Host.Outcome State Fault Refusal :=
  .next (deliver ⟨.none, classify (opXYZ 3 y 2), none, some (.word nn), 3⟩ s)

/-- N.X3Z3.Y0 (R147): Word. -/
def execNX3Z3Y0 (nn : Word16) (s : State) : Host.Outcome State Fault Refusal :=
  .next (deliver ⟨.none, classify (opXYZ 3 0 3), none, some (.word nn), 3⟩ s)

/-- N.X3Z3.Y23 (R149): Byte. -/
def execNX3Z3Y23 (y : BitVec 3) (n : Byte) (s : State) : Host.Outcome State Fault Refusal :=
  .next (deliver ⟨.none, classify (opXYZ 3 y 3), none, some (.byte n), 2⟩ s)

/-- N.X3Z3.YHI (R150): nothing. -/
def execNX3Z3Yhi (y : BitVec 3) (s : State) : Host.Outcome State Fault Refusal :=
  .next (deliver ⟨.none, classify (opXYZ 3 y 3), none, none, 1⟩ s)

/-- N.X3Z4 (R151): nothing. -/
def execNX3Z4 (y : BitVec 3) (s : State) : Host.Outcome State Fault Refusal :=
  .next (deliver ⟨.none, classify (opXYZ 3 y 4), none, none, 1⟩ s)

/-- N.X3Z5.P0 (R152): Word. -/
def execNX3Z5P0 (q : BitVec 1) (nn : Word16) (s : State) : Host.Outcome State Fault Refusal :=
  .next (deliver ⟨.none, classify (opXPQZ 3 0 q 5), none, some (.word nn), 3⟩ s)

/-- N.X3Z5.Q0P (R153): nothing. -/
def execNX3Z5Q0p (p : BitVec 2) (s : State) : Host.Outcome State Fault Refusal :=
  .next (deliver ⟨.none, classify (opXPQZ 3 p 0 5), none, none, 1⟩ s)

/-- N.X3Z6 (R155): Byte. -/
def execNX3Z6 (y : BitVec 3) (n : Byte) (s : State) : Host.Outcome State Fault Refusal :=
  .next (deliver ⟨.none, classify (opXYZ 3 y 6), none, some (.byte n), 2⟩ s)

/-- N.X3Z7 (R156): nothing. -/
def execNX3Z7 (y : BitVec 3) (s : State) : Host.Outcome State Fault Refusal :=
  .next (deliver ⟨.none, classify (opXYZ 3 y 7), none, none, 1⟩ s)

end Sys2Proof.Machine
end

