-- ==== Sys2Proof/Machine/Dispatch.lean ====
section
/-! DEFINITION. One arm per instruction, each one direct call of its meaning. -/

namespace Sys2Proof.Machine

def exec (i : Instr) (s : State) : Host.Outcome State Fault Refusal :=
  match i with
  -- format N
  | .nX0Z0Lo y => Sys2Proof.Machine.execNX0Z0Lo y s
  | .nX0Z0Rel y d => Sys2Proof.Machine.execNX0Z0Rel y d s
  | .nX0Z1Q0 p nn => Sys2Proof.Machine.execNX0Z1Q0 p nn s
  | .nX0Z1Q1 p => Sys2Proof.Machine.execNX0Z1Q1 p s
  | .nX0Z2Plo y => Sys2Proof.Machine.execNX0Z2Plo y s
  | .nX0Z2Phi y nn => Sys2Proof.Machine.execNX0Z2Phi y nn s
  | .nX0Z3 y => Sys2Proof.Machine.execNX0Z3 y s
  | .nX0Z4 y => Sys2Proof.Machine.execNX0Z4 y s
  | .nX0Z5 y => Sys2Proof.Machine.execNX0Z5 y s
  | .nX0Z6 y n => Sys2Proof.Machine.execNX0Z6 y n s
  | .nX0Z7 y => Sys2Proof.Machine.execNX0Z7 y s
  | .nX1 y z => Sys2Proof.Machine.execNX1 y z s
  | .nX2 y z => Sys2Proof.Machine.execNX2 y z s
  | .nX3Z0 y => Sys2Proof.Machine.execNX3Z0 y s
  | .nX3Z1 y => Sys2Proof.Machine.execNX3Z1 y s
  | .nX3Z2 y nn => Sys2Proof.Machine.execNX3Z2 y nn s
  | .nX3Z3Y0 nn => Sys2Proof.Machine.execNX3Z3Y0 nn s
  | .nX3Z3Y23 y n => Sys2Proof.Machine.execNX3Z3Y23 y n s
  | .nX3Z3Yhi y => Sys2Proof.Machine.execNX3Z3Yhi y s
  | .nX3Z4 y => Sys2Proof.Machine.execNX3Z4 y s
  | .nX3Z5P0 q nn => Sys2Proof.Machine.execNX3Z5P0 q nn s
  | .nX3Z5Q0p p => Sys2Proof.Machine.execNX3Z5Q0p p s
  | .nX3Z6 y n => Sys2Proof.Machine.execNX3Z6 y n s
  | .nX3Z7 y => Sys2Proof.Machine.execNX3Z7 y s
  -- format XY, prefix DD
  | .ddX0Z0Lo y => Sys2Proof.Machine.execDdX0Z0Lo y s
  | .ddX0Z0Rel y d => Sys2Proof.Machine.execDdX0Z0Rel y d s
  | .ddX0Z1Q0 p nn => Sys2Proof.Machine.execDdX0Z1Q0 p nn s
  | .ddX0Z1Q1 p => Sys2Proof.Machine.execDdX0Z1Q1 p s
  | .ddX0Z2Plo y => Sys2Proof.Machine.execDdX0Z2Plo y s
  | .ddX0Z2Phi y nn => Sys2Proof.Machine.execDdX0Z2Phi y nn s
  | .ddX0Z3 y => Sys2Proof.Machine.execDdX0Z3 y s
  | .ddX0Z4 y => Sys2Proof.Machine.execDdX0Z4 y s
  | .ddX0Z5 y => Sys2Proof.Machine.execDdX0Z5 y s
  | .ddX0Z6 y n => Sys2Proof.Machine.execDdX0Z6 y n s
  | .ddX0Z7 y => Sys2Proof.Machine.execDdX0Z7 y s
  | .ddX1 y z => Sys2Proof.Machine.execDdX1 y z s
  | .ddX2 y z => Sys2Proof.Machine.execDdX2 y z s
  | .ddX3Z0 y => Sys2Proof.Machine.execDdX3Z0 y s
  | .ddX3Z1 y => Sys2Proof.Machine.execDdX3Z1 y s
  | .ddX3Z2 y nn => Sys2Proof.Machine.execDdX3Z2 y nn s
  | .ddX3Z3Y0 nn => Sys2Proof.Machine.execDdX3Z3Y0 nn s
  | .ddX3Z3Y23 y n => Sys2Proof.Machine.execDdX3Z3Y23 y n s
  | .ddX3Z3Yhi y => Sys2Proof.Machine.execDdX3Z3Yhi y s
  | .ddX3Z4 y => Sys2Proof.Machine.execDdX3Z4 y s
  | .ddX3Z5P0 q nn => Sys2Proof.Machine.execDdX3Z5P0 q nn s
  | .ddX3Z5Q0p p => Sys2Proof.Machine.execDdX3Z5Q0p p s
  | .ddX3Z5Q1p p => Sys2Proof.Machine.execDdX3Z5Q1p p s
  | .ddX3Z6 y n => Sys2Proof.Machine.execDdX3Z6 y n s
  | .ddX3Z7 y => Sys2Proof.Machine.execDdX3Z7 y s
  | .ddIdxX0Z4 d => Sys2Proof.Machine.execDdIdxX0Z4 d s
  | .ddIdxX0Z5 d => Sys2Proof.Machine.execDdIdxX0Z5 d s
  | .ddIdxX0Z6 d n => Sys2Proof.Machine.execDdIdxX0Z6 d n s
  | .ddIdxX1Z6 y d => Sys2Proof.Machine.execDdIdxX1Z6 y d s
  | .ddIdxX1Y6 z d => Sys2Proof.Machine.execDdIdxX1Y6 z d s
  | .ddX1Y6Z6 => Sys2Proof.Machine.execDdX1Y6Z6 s
  | .ddIdxX2Z6 y d => Sys2Proof.Machine.execDdIdxX2Z6 y d s
  -- format XY, prefix FD
  | .fdX0Z0Lo y => Sys2Proof.Machine.execFdX0Z0Lo y s
  | .fdX0Z0Rel y d => Sys2Proof.Machine.execFdX0Z0Rel y d s
  | .fdX0Z1Q0 p nn => Sys2Proof.Machine.execFdX0Z1Q0 p nn s
  | .fdX0Z1Q1 p => Sys2Proof.Machine.execFdX0Z1Q1 p s
  | .fdX0Z2Plo y => Sys2Proof.Machine.execFdX0Z2Plo y s
  | .fdX0Z2Phi y nn => Sys2Proof.Machine.execFdX0Z2Phi y nn s
  | .fdX0Z3 y => Sys2Proof.Machine.execFdX0Z3 y s
  | .fdX0Z4 y => Sys2Proof.Machine.execFdX0Z4 y s
  | .fdX0Z5 y => Sys2Proof.Machine.execFdX0Z5 y s
  | .fdX0Z6 y n => Sys2Proof.Machine.execFdX0Z6 y n s
  | .fdX0Z7 y => Sys2Proof.Machine.execFdX0Z7 y s
  | .fdX1 y z => Sys2Proof.Machine.execFdX1 y z s
  | .fdX2 y z => Sys2Proof.Machine.execFdX2 y z s
  | .fdX3Z0 y => Sys2Proof.Machine.execFdX3Z0 y s
  | .fdX3Z1 y => Sys2Proof.Machine.execFdX3Z1 y s
  | .fdX3Z2 y nn => Sys2Proof.Machine.execFdX3Z2 y nn s
  | .fdX3Z3Y0 nn => Sys2Proof.Machine.execFdX3Z3Y0 nn s
  | .fdX3Z3Y23 y n => Sys2Proof.Machine.execFdX3Z3Y23 y n s
  | .fdX3Z3Yhi y => Sys2Proof.Machine.execFdX3Z3Yhi y s
  | .fdX3Z4 y => Sys2Proof.Machine.execFdX3Z4 y s
  | .fdX3Z5P0 q nn => Sys2Proof.Machine.execFdX3Z5P0 q nn s
  | .fdX3Z5Q0p p => Sys2Proof.Machine.execFdX3Z5Q0p p s
  | .fdX3Z5Q1p p => Sys2Proof.Machine.execFdX3Z5Q1p p s
  | .fdX3Z6 y n => Sys2Proof.Machine.execFdX3Z6 y n s
  | .fdX3Z7 y => Sys2Proof.Machine.execFdX3Z7 y s
  | .fdIdxX0Z4 d => Sys2Proof.Machine.execFdIdxX0Z4 d s
  | .fdIdxX0Z5 d => Sys2Proof.Machine.execFdIdxX0Z5 d s
  | .fdIdxX0Z6 d n => Sys2Proof.Machine.execFdIdxX0Z6 d n s
  | .fdIdxX1Z6 y d => Sys2Proof.Machine.execFdIdxX1Z6 y d s
  | .fdIdxX1Y6 z d => Sys2Proof.Machine.execFdIdxX1Y6 z d s
  | .fdX1Y6Z6 => Sys2Proof.Machine.execFdX1Y6Z6 s
  | .fdIdxX2Z6 y d => Sys2Proof.Machine.execFdIdxX2Z6 y d s
  -- formats CB, ED, XYCB
  | .cbAny op => Sys2Proof.Machine.execCbAny op s
  | .edAny op => Sys2Proof.Machine.execEdAny op s
  | .ddcbAny d op => Sys2Proof.Machine.execDdcbAny d op s
  | .fdcbAny d op => Sys2Proof.Machine.execFdcbAny d op s

end Sys2Proof.Machine
end

