-- ==== Sys2Proof/Machine/Step.lean ====
section
/-! DEFINITION. One step: one evaluation of the block on what its input ports present, and what the
caller does with the result (R204, R222). -/

namespace Sys2Proof.Machine

/-- One evaluation.  The instruction at the ports runs; an input that ends before the instruction does
is reported as Truncated. -/
def step (s : State) : Host.Outcome State Fault Refusal :=
  match fetch s with
  | .ok i _ => exec i s
  | .truncated => .next (reportTruncated s)
  | .noRow => .refused .noTableRow

/-- `s` with a word of the opcode table stored in the stream at the offset and presented at the input
ports, so that the very next step runs it. -/
def State.withFetchWord (s : State) (nbits w : Nat) : State := placeAtOffset s (tableBytes nbits w)

end Sys2Proof.Machine
end

