-- ==== Sys2Proof/Safety.lean ====
section
/-! DEFINITION. What counts as a sound state, a sound record and a step that goes on, in the terms the
statements use. -/

namespace Sys2Proof.Machine

/-- R30 (a): the sub-fields of a record's opcode are its own byte's. -/
def OpcodeSound (f : OpcodeByte) : Prop :=
  f.y.toNat = 2 * f.p.toNat + f.q.toNat ∧
  64 * f.x.toNat + 8 * f.y.toNat + f.z.toNat = f.raw.toNat ∧
  f.x.toNat ≤ 3 ∧ f.y.toNat ≤ 7 ∧ f.z.toNat ≤ 7 ∧ f.p.toNat ≤ 3 ∧ f.q.toNat ≤ 1

/-- R200: the index of the base opcode of a kind. -/
def baseIndexOf : PrefixKind → Nat
  | .none => 0
  | .cb | .ed | .dd | .fd => 1
  | .ddcb | .fdcb => 3

/-- R30 (b): whether a record of this kind and opcode has a displacement. -/
def hasDisplacement (kind : PrefixKind) (f : OpcodeByte) : Bool :=
  match kind with
  | .ddcb | .fdcb => true
  | .none | .cb | .ed | .dd | .fd => (shape kind f).d == 1

/-- R30 (b): the tag of a record's immediate. -/
def immTag : Option Immediate → ImmKind
  | none => .none
  | some (.byte _) => .byte
  | some (.word _) => .word

/-- R30 (a) to (e): the invariants of a record. -/
structure RecordSound (r : Record) : Prop where
  opcode : OpcodeSound r.opcode
  dispPresence : r.displacement.isSome = hasDisplacement r.prefixKind r.opcode
  dispRange : ∀ d, r.displacement = some d → -128 ≤ d ∧ d ≤ 127
  immKind : immTag r.immediate = (shape r.prefixKind r.opcode).imm
  lengthIs : r.length = recordLength (baseIndexOf r.prefixKind) (shape r.prefixKind r.opcode)
  lengthRange : 1 ≤ r.length ∧ r.length ≤ 4
  rawUnprefixed : r.prefixKind = .none → Config.isPrefixByte r.opcode.raw = false
  rawIndexed : r.prefixKind = .dd ∨ r.prefixKind = .fd → r.opcode.raw ≠ Config.cbByte

/-- A result is sound if it is Truncated or a sound record. -/
def ResultSound : DecodeResult → Prop
  | .ok r => RecordSound r
  | .err .truncated => True

/-- R31, R41: the input ports show the stream from the offset on. -/
def Coherent (s : State) : Prop :=
  s.avail.toNat ≤ 4 ∧ s.input = s.stream.bytesAt s.off Config.window

/-- The invariant of the machine: the stream in canonical form, the ports showing it, the result
sound. -/
structure MachineInv (s : State) : Prop where
  stream : s.stream.wf
  ports : Coherent s
  result : ResultSound s.result

/-- A step that goes on, with what the next state must satisfy. -/
def StepsTo (s : State) (post : State → Prop) : Prop := ∃ t, step s = .next t ∧ post t

/-- A meaning that goes on, with what the next state must satisfy. -/
def ExecsTo (i : Instr) (s : State) (post : State → Prop) : Prop := ∃ t, exec i s = .next t ∧ post t

/-! ### The words of the statements about operand shapes -/

/-- Under prefix none the opcode byte takes nothing: length 1. -/
def PlainTakesNothing (b : Byte) : Prop :=
  ∀ rest, decodeBlock (b :: rest) = .ok ⟨.none, classify b, none, none, 1⟩

/-- Under prefix none the opcode byte takes a Byte: length 2, and Truncated without it. -/
def PlainTakesByte (b : Byte) : Prop :=
  (∀ n rest, decodeBlock (b :: n :: rest) = .ok ⟨.none, classify b, none, some (.byte n), 2⟩) ∧
  decodeBlock [b] = .err .truncated

/-- The two prefix bytes of format XY with their kinds (R64). -/
def xyPrefixes : List (Byte × PrefixKind) := [(Config.ddByte, .dd), (Config.fdByte, .fd)]

/-- Under DD and under FD the opcode byte takes nothing: length 2. -/
def IndexedTakesNothing (b : Byte) : Prop :=
  ∀ pk ∈ xyPrefixes, ∀ rest, decodeBlock (pk.1 :: b :: rest) = .ok ⟨pk.2, classify b, none, none, 2⟩

/-- Under DD and under FD the opcode byte takes a Byte: length 3, and Truncated without it. -/
def IndexedTakesByte (b : Byte) : Prop :=
  ∀ pk ∈ xyPrefixes,
    (∀ n rest, decodeBlock (pk.1 :: b :: n :: rest) = .ok ⟨pk.2, classify b, none, some (.byte n), 3⟩) ∧
    decodeBlock [pk.1, b] = .err .truncated

/-- Under DD and under FD the opcode byte takes a displacement: length 3, and Truncated without it. -/
def IndexedTakesDisplacement (b : Byte) : Prop :=
  ∀ pk ∈ xyPrefixes,
    (∀ d rest, decodeBlock (pk.1 :: b :: d :: rest) = .ok ⟨pk.2, classify b, some (sext8 d), none, 3⟩) ∧
    decodeBlock [pk.1, b] = .err .truncated

/-- "Shape: nothing", under prefix none and under DD and FD. -/
def TakesNothing (b : Byte) : Prop := PlainTakesNothing b ∧ IndexedTakesNothing b

/-- "Shape: Byte", under prefix none and under DD and FD. -/
def TakesByte (b : Byte) : Prop := PlainTakesByte b ∧ IndexedTakesByte b

/-- "Shape: one displacement byte, no immediate", under prefix none and under DD and FD. -/
def TakesDisplacement (b : Byte) : Prop :=
  (∀ d rest, decodeBlock (b :: d :: rest) = .ok ⟨.none, classify b, some (sext8 d), none, 2⟩) ∧
  decodeBlock [b] = .err .truncated ∧ IndexedTakesDisplacement b

/-- "Shape: Word", under prefix none and under DD and FD: low byte first, and Truncated when one or
both bytes are missing. -/
def TakesWord (b : Byte) : Prop :=
  (∀ low high rest, decodeBlock (b :: low :: high :: rest) =
    .ok ⟨.none, classify b, none, some (.word (joinWord low high)), 3⟩) ∧
  (∀ low, decodeBlock [b, low] = .err .truncated) ∧ decodeBlock [b] = .err .truncated ∧
  ∀ pk ∈ xyPrefixes,
    (∀ low high rest, decodeBlock (pk.1 :: b :: low :: high :: rest) =
      .ok ⟨pk.2, classify b, none, some (.word (joinWord low high)), 4⟩) ∧
    (∀ low, decodeBlock [pk.1, b, low] = .err .truncated) ∧ decodeBlock [pk.1, b] = .err .truncated

/-- A class of 42_operand_length.md: the base opcodes whose sub-fields meet the selecting condition are
just the listed ones, and each of them takes the operands of the class. -/
def ClassTakes (selects : OpcodeByte → Bool) (opcodes : List Byte) (takes : Byte → Prop) : Prop :=
  (∀ b : Byte, selects (classify b) = true ↔ b ∈ opcodes) ∧ ∀ b ∈ opcodes, takes b

/-- R67: the byte with the sub-fields x, y, z, as a number. -/
def byteXYZ (x y z : Nat) : Byte := BitVec.ofNat 8 (64 * x + 8 * y + z)

/-- The instruction completes: `exec` answers a next state that holds just this record, whose offset
has advanced by the record's length, whose stream is the old one at every address, and whose ports
show the stream from the new offset on. -/
def Delivers (i : Instr) (s : State) (kind : PrefixKind) (op : Byte) (disp : Option Int)
    (imm : Option Immediate) (len : Nat) : Prop :=
  ExecsTo i s fun t =>
    t.result = .ok ⟨kind, classify op, disp, imm, len⟩ ∧ t.off = s.off + len ∧
    (∀ a, t.stream.read a = s.stream.read a) ∧ t.input = s.stream.bytesAt (s.off + len) Config.window

end Sys2Proof.Machine
end

