-- ==== Sys2Proof/Certificates/Slice0/Obligations.lean ====
section
/-! DEFINITION. The statements for the provers.  Each docstring names the rule of spec/ it formalises,
or says which choice of the spec or of the model it rests on. -/

open Sys2Proof Sys2Proof.Machine

/-! ### The bit-field extractor and the classifier -/

/-- R90: EXTRACT_BITS returns the bits `low..=high`, moved down to bit 0, in 0 .. 2^w - 1. -/
def Obligations.ExtractBitsReadsTheRange : Prop :=
  ∀ (byte : Byte) (low high : Nat) (h : low ≤ high ∧ high ≤ 7),
    (extractBits byte low high h).toNat = (byte.toNat >>> low) % 2 ^ (high - low + 1) ∧
    ∀ i, (extractBits byte low high h).getLsbD i = (decide (i ≤ high - low) && byte.getLsbD (low + i))

/-- R92: the five instances, with their values and ranges. -/
def Obligations.FiveFieldsHaveTheirValues : Prop :=
  ∀ b : Byte,
    (fieldX b).toNat = b.toNat >>> 6 ∧ (fieldX b).toNat ≤ 3 ∧
    (fieldY b).toNat = (b.toNat >>> 3) % 8 ∧ (fieldY b).toNat ≤ 7 ∧
    (fieldZ b).toNat = b.toNat % 8 ∧ (fieldZ b).toNat ≤ 7 ∧
    (fieldP b).toNat = (b.toNat >>> 4) % 4 ∧ (fieldP b).toNat ≤ 3 ∧
    (fieldQ b).toNat = (b.toNat >>> 3) % 2 ∧ (fieldQ b).toNat ≤ 1

/-- R102: y = 2p + q, x, y, z rebuild the byte, and CLASSIFY is injective on (x, y, z). -/
def Obligations.ClassifyRebuildsTheByte : Prop :=
  (∀ b : Byte, (classify b).y = (classify b).p * 2 + (classify b).q ∧
    ((classify b).x <<< 6 ||| (classify b).y <<< 3 ||| (classify b).z) = b ∧ (classify b).raw = b) ∧
  ∀ a b : Byte, (classify a).x = (classify b).x → (classify a).y = (classify b).y →
    (classify a).z = (classify b).z → a = b

/-! ### The prefix dispatcher -/

/-- R112, R113, R114, R116, R117 (and the kinds none and FD beside them): which bytes give which kind,
where the base opcode stands, which displacement the dispatcher takes, and when it is Truncated. -/
def Obligations.PrefixKindsAreDispatched : Prop :=
  ∀ (b0 b1 b2 b3 : Byte) (rest : List Byte),
    (Config.isPrefixByte b0 = false → prefixDispatch (b0 :: rest) = .ok ⟨.none, 0, none⟩) ∧
    prefixDispatch (0xCB#8 :: b1 :: rest) = .ok ⟨.cb, 1, none⟩ ∧
    prefixDispatch (0xED#8 :: b1 :: rest) = .ok ⟨.ed, 1, none⟩ ∧
    (b1 ≠ 0xCB#8 → prefixDispatch (0xDD#8 :: b1 :: rest) = .ok ⟨.dd, 1, none⟩ ∧
      prefixDispatch (0xFD#8 :: b1 :: rest) = .ok ⟨.fd, 1, none⟩) ∧
    prefixDispatch (0xDD#8 :: 0xCB#8 :: b2 :: b3 :: rest) = .ok ⟨.ddcb, 3, some (sext8 b2)⟩ ∧
    prefixDispatch (0xFD#8 :: 0xCB#8 :: b2 :: b3 :: rest) = .ok ⟨.fdcb, 3, some (sext8 b2)⟩ ∧
    (∀ p ∈ [0xCB#8, 0xED#8, 0xDD#8, 0xFD#8], prefixDispatch [p] = .err .truncated) ∧
    ∀ p ∈ [0xDD#8, 0xFD#8], prefixDispatch [p, 0xCB#8] = .err .truncated ∧
      prefixDispatch [p, 0xCB#8, b2] = .err .truncated

/-- The dispatcher is Truncated in exactly the cases of 41_prefix_dispatch.md section 3 (the case of no
byte is the spec's decision D7). -/
def Obligations.DispatcherTruncatedExactly : Prop :=
  ∀ bytes : List Byte, prefixDispatch bytes = .err .truncated ↔
    bytes = [] ∨
    (∃ b0, bytes = [b0] ∧ Config.isPrefixByte b0 = true) ∨
    (∃ b0, bytes = [b0, 0xCB#8] ∧ (b0 = 0xDD#8 ∨ b0 = 0xFD#8)) ∨
    (∃ b0 b2, bytes = [b0, 0xCB#8, b2] ∧ (b0 = 0xDD#8 ∨ b0 = 0xFD#8))

/-! ### The operand-length table -/

/-- R131 to R137, R141: the classes with x = 0 that no indexed form touches. -/
def Obligations.ClassesOfX0TakeTheirOperands : Prop :=
  ClassTakes (fun f => f.x == 0 && f.z == 0 && decide (f.y.toNat ≤ 3))
    [0x00#8, 0x08#8, 0x10#8, 0x18#8] TakesNothing ∧
  ClassTakes (fun f => f.x == 0 && f.z == 0 && decide (4 ≤ f.y.toNat))
    [0x20#8, 0x28#8, 0x30#8, 0x38#8] TakesDisplacement ∧
  ClassTakes (fun f => f.x == 0 && f.z == 1 && f.q == 0) [0x01#8, 0x11#8, 0x21#8, 0x31#8] TakesWord ∧
  ClassTakes (fun f => f.x == 0 && f.z == 1 && f.q == 1) [0x09#8, 0x19#8, 0x29#8, 0x39#8] TakesNothing ∧
  ClassTakes (fun f => f.x == 0 && f.z == 2 && (f.p == 0 || f.p == 1))
    [0x02#8, 0x0A#8, 0x12#8, 0x1A#8] TakesNothing ∧
  ClassTakes (fun f => f.x == 0 && f.z == 2 && (f.p == 2 || f.p == 3))
    [0x22#8, 0x2A#8, 0x32#8, 0x3A#8] TakesWord ∧
  ClassTakes (fun f => f.x == 0 && f.z == 3)
    [0x03#8, 0x0B#8, 0x13#8, 0x1B#8, 0x23#8, 0x2B#8, 0x33#8, 0x3B#8] TakesNothing ∧
  ClassTakes (fun f => f.x == 0 && f.z == 7)
    [0x07#8, 0x0F#8, 0x17#8, 0x1F#8, 0x27#8, 0x2F#8, 0x37#8, 0x3F#8] TakesNothing

/-- R144 to R147, R149, R150, R152, R153, R155, R156: the classes with x = 3, less X3Z4 and X3Z5.Q1P (they
rest on decisions of the spec, D10 and D11, and are stated apart) and X3Z3.Y1 (its byte is never a base
opcode here, stated apart too). -/
def Obligations.ClassesOfX3TakeTheirOperands : Prop :=
  ClassTakes (fun f => f.x == 3 && f.z == 0)
    [0xC0#8, 0xC8#8, 0xD0#8, 0xD8#8, 0xE0#8, 0xE8#8, 0xF0#8, 0xF8#8] TakesNothing ∧
  ClassTakes (fun f => f.x == 3 && f.z == 1)
    [0xC1#8, 0xC9#8, 0xD1#8, 0xD9#8, 0xE1#8, 0xE9#8, 0xF1#8, 0xF9#8] TakesNothing ∧
  ClassTakes (fun f => f.x == 3 && f.z == 2)
    [0xC2#8, 0xCA#8, 0xD2#8, 0xDA#8, 0xE2#8, 0xEA#8, 0xF2#8, 0xFA#8] TakesWord ∧
  ClassTakes (fun f => f.x == 3 && f.z == 3 && f.y == 0) [0xC3#8] TakesWord ∧
  ClassTakes (fun f => f.x == 3 && f.z == 3 && (f.y == 2 || f.y == 3)) [0xD3#8, 0xDB#8] TakesByte ∧
  ClassTakes (fun f => f.x == 3 && f.z == 3 && decide (4 ≤ f.y.toNat))
    [0xE3#8, 0xEB#8, 0xF3#8, 0xFB#8] TakesNothing ∧
  ClassTakes (fun f => f.x == 3 && f.z == 5 && f.p == 0) [0xC5#8, 0xCD#8] TakesWord ∧
  ClassTakes (fun f => f.x == 3 && f.z == 5 && f.q == 0 && f.p != 0) [0xD5#8, 0xE5#8, 0xF5#8] TakesNothing ∧
  ClassTakes (fun f => f.x == 3 && f.z == 6)
    [0xC6#8, 0xCE#8, 0xD6#8, 0xDE#8, 0xE6#8, 0xEE#8, 0xF6#8, 0xFE#8] TakesByte ∧
  ClassTakes (fun f => f.x == 3 && f.z == 7)
    [0xC7#8, 0xCF#8, 0xD7#8, 0xDF#8, 0xE7#8, 0xEF#8, 0xF7#8, 0xFF#8] TakesNothing

/-- R148: the class X3Z3.Y1 has the byte 0xCB alone and takes nothing by the table, but the entry is
never consulted: 0xCB is no base opcode of a record of kind none, DD or FD and has no row of the table
there; as the base opcode of the other kinds it takes what R170 to R172 say. -/
def Obligations.ClassX3Z3Y1IsNeverConsulted : Prop :=
  (∀ b : Byte, (classify b).x = 3 ∧ (classify b).z = 3 ∧ (classify b).y = 1 ↔ b = 0xCB#8) ∧
  (∀ k ∈ [PrefixKind.none, .dd, .fd], shape k (classify 0xCB#8) = ⟨0, .none⟩) ∧
  (∀ (bytes : List Byte) (r : Record), decodeBlock bytes = .ok r →
    r.prefixKind = .none ∨ r.prefixKind = .dd ∨ r.prefixKind = .fd → r.opcode.raw ≠ 0xCB#8) ∧
  classOf tableN 0xCB#8 = none ∧ classOf tableXY 0xCB#8 = none ∧
  ∀ (d : Byte) (rest : List Byte),
    decodeBlock (0xCB#8 :: 0xCB#8 :: rest) = .ok ⟨.cb, classify 0xCB#8, none, none, 2⟩ ∧
    decodeBlock (0xED#8 :: 0xCB#8 :: rest) = .ok ⟨.ed, classify 0xCB#8, none, none, 2⟩ ∧
    decodeBlock (0xDD#8 :: 0xCB#8 :: d :: 0xCB#8 :: rest) = .ok ⟨.ddcb, classify 0xCB#8, some (sext8 d), none, 4⟩ ∧
    decodeBlock (0xFD#8 :: 0xCB#8 :: d :: 0xCB#8 :: rest) = .ok ⟨.fdcb, classify 0xCB#8, some (sext8 d), none, 4⟩

/-- Class X3Z4 takes nothing: the spec's decision D10 on what the source calls an open question. -/
def Obligations.ClassX3Z4TakesNothing : Prop :=
  ClassTakes (fun f => f.x == 3 && f.z == 4)
    [0xC4#8, 0xCC#8, 0xD4#8, 0xDC#8, 0xE4#8, 0xEC#8, 0xF4#8, 0xFC#8] TakesNothing

/-- The classes X0Z4, X0Z5, X0Z6, X1 and X2 under prefix none and, outside the indexed forms, under DD
and FD.  Which forms are indexed is the spec's decision D8. -/
def Obligations.ClassesBesideTheIndexedForms : Prop :=
  (∀ y z : Nat, y < 8 → z < 8 →
    PlainTakesNothing (byteXYZ 1 y z) ∧ PlainTakesNothing (byteXYZ 2 y z) ∧
    (y ≠ 6 → z ≠ 6 → IndexedTakesNothing (byteXYZ 1 y z)) ∧
    (z ≠ 6 → IndexedTakesNothing (byteXYZ 2 y z))) ∧
  IndexedTakesNothing 0x76#8 ∧
  ∀ y : Nat, y < 8 →
    PlainTakesNothing (byteXYZ 0 y 4) ∧ PlainTakesNothing (byteXYZ 0 y 5) ∧ PlainTakesByte (byteXYZ 0 y 6) ∧
    (y ≠ 6 → IndexedTakesNothing (byteXYZ 0 y 4) ∧ IndexedTakesNothing (byteXYZ 0 y 5) ∧
      IndexedTakesByte (byteXYZ 0 y 6))

/-- The 25 indexed forms under DD and FD (the spec's decision D8): 24 take a displacement, 0x36 takes a
displacement and then a Byte (the order is the spec's decision D9), Truncated when a byte is missing;
and IDX holds of just these bytes. -/
def Obligations.IndexedFormsTakeADisplacement : Prop :=
  (∀ b : Byte, idx (classify b) = true ↔
    b ∈ [0x34#8, 0x35#8, 0x36#8, 0x46#8, 0x4E#8, 0x56#8, 0x5E#8, 0x66#8, 0x6E#8, 0x7E#8, 0x70#8, 0x71#8,
      0x72#8, 0x73#8, 0x74#8, 0x75#8, 0x77#8, 0x86#8, 0x8E#8, 0x96#8, 0x9E#8, 0xA6#8, 0xAE#8, 0xB6#8, 0xBE#8]) ∧
  (∀ b : Byte, idx (classify b) = true → b ≠ 0x36#8 → IndexedTakesDisplacement b) ∧
  ∀ pk ∈ xyPrefixes,
    (∀ d n rest, decodeBlock (pk.1 :: 0x36#8 :: d :: n :: rest) =
      .ok ⟨pk.2, classify 0x36#8, some (sext8 d), some (.byte n), 4⟩) ∧
    (∀ d, decodeBlock [pk.1, 0x36#8, d] = .err .truncated) ∧
    decodeBlock [pk.1, 0x36#8] = .err .truncated

/-- R170, R171, R172: under CB and ED every base opcode gives two bytes and no operand; in the composite
forms every base opcode gives four bytes, the displacement of index 2 and nothing further. -/
def Obligations.OtherKindsTakeNothingFurther : Prop :=
  ∀ (op d : Byte) (rest : List Byte),
    decodeBlock (0xCB#8 :: op :: rest) = .ok ⟨.cb, classify op, none, none, 2⟩ ∧
    decodeBlock (0xED#8 :: op :: rest) = .ok ⟨.ed, classify op, none, none, 2⟩ ∧
    decodeBlock (0xDD#8 :: 0xCB#8 :: d :: op :: rest) = .ok ⟨.ddcb, classify op, some (sext8 d), none, 4⟩ ∧
    decodeBlock (0xFD#8 :: 0xCB#8 :: d :: op :: rest) = .ok ⟨.fdcb, classify op, some (sext8 d), none, 4⟩

/-- The counts of base opcodes by shape (42_operand_length.md section 7, the spec's own enumeration). -/
def Obligations.ShapeCounts : Prop :=
  let all := (List.range 256).map (BitVec.ofNat 8)
  let count := fun (kind : PrefixKind) (bs : List Byte) (sh : Shape) =>
    (bs.filter fun b => shape kind (classify b) == sh).length
  let plain := all.filter fun b => !Config.isPrefixByte b
  let xy := all.filter fun b => b != 0xCB#8
  (plain.length = 252 ∧ xy.length = 255) ∧
  (count .none plain ⟨0, .none⟩ = 211 ∧ count .none plain ⟨1, .none⟩ = 4 ∧
    count .none plain ⟨0, .byte⟩ = 18 ∧ count .none plain ⟨0, .word⟩ = 19) ∧
  (∀ k ∈ [PrefixKind.dd, PrefixKind.fd],
    count k xy ⟨0, .none⟩ = 190 ∧ count k xy ⟨1, .none⟩ = 28 ∧ count k xy ⟨0, .byte⟩ = 17 ∧
    count k xy ⟨0, .word⟩ = 19 ∧ count k xy ⟨1, .byte⟩ = 1) ∧
  ∀ k ∈ [PrefixKind.cb, PrefixKind.ed, PrefixKind.ddcb, PrefixKind.fdcb], count k all ⟨0, .none⟩ = 256

/-- Within a prefix kind the rows of the opcode table are disjoint and fit every base opcode the kind
can have, and no other (30_encoding.md section 7). -/
def Obligations.TableRowsAreDisjointAndCover : Prop :=
  (∀ b : Byte, (tableN.filter fun r => b &&& r.mask == r.pat).length =
    if Config.isPrefixByte b then 0 else 1) ∧
  ∀ b : Byte, (tableXY.filter fun r => b &&& r.mask == r.pat).length = if b = 0xCB#8 then 0 else 1

/-! ### DECODE -/

/-- R43: a Word is low byte first, its value `low + 256 * high`. -/
def Obligations.WordsAreLittleEndian : Prop :=
  (∀ low high : Byte, (joinWord low high).toNat = low.toNat + 256 * high.toNat) ∧
  ∀ (bytes : List Byte) (r : Record) (nn : Word16), decodeBlock bytes = .ok r → r.immediate = some (.word nn) →
    ∃ k low high, bytes[k]? = some low ∧ bytes[k + 1]? = some high ∧ k + 2 = r.length ∧
      nn.toNat = low.toNat + 256 * high.toNat

/-- R71: a displacement is the byte read as two's complement, from index 2 in the composite forms and
from just after the opcode otherwise. -/
def Obligations.DisplacementsAreSigned : Prop :=
  (∀ b : Byte, sext8 b = if b.toNat < 128 then (b.toNat : Int) else (b.toNat : Int) - 256) ∧
  ∀ (bytes : List Byte) (r : Record) (d : Int), decodeBlock bytes = .ok r → r.displacement = some d →
    ∃ b, d = sext8 b ∧ -128 ≤ d ∧ d ≤ 127 ∧
      bytes[if r.prefixKind = .ddcb ∨ r.prefixKind = .fdcb then 2 else baseIndexOf r.prefixKind + 1]? = some b

/-- R198: every input has one result, a record exactly when there are at least L bytes; four or more
bytes always give a record; the first L bytes are just enough: fewer are Truncated. -/
def Obligations.DecodeIsTotalAndMinimal : Prop :=
  (∀ (bytes : List Byte) (p : PrefixOut) (b : Byte), prefixDispatch bytes = .ok p → bytes[p.bi]? = some b →
    ((∃ r, decodeBlock bytes = .ok r) ↔ recordLength p.bi (shape p.kind (classify b)) ≤ bytes.length) ∧
    ∀ r, decodeBlock bytes = .ok r → r.length = recordLength p.bi (shape p.kind (classify b))) ∧
  (∀ bytes : List Byte, decodeBlock bytes = .err .truncated ∨ ∃ r, decodeBlock bytes = .ok r) ∧
  (∀ bytes : List Byte, 4 ≤ bytes.length → ∃ r, decodeBlock bytes = .ok r) ∧
  ∀ (bytes : List Byte) (r : Record), decodeBlock bytes = .ok r →
    r.length ≤ bytes.length ∧ ∀ k, k < r.length → decodeBlock (bytes.take k) = .err .truncated

/-- The record depends on the first `length` bytes only (20_memory.md section 4, R199's derived
sentence): whatever stands after them. -/
def Obligations.RecordDependsOnItsOwnBytes : Prop :=
  ∀ (bytes rest : List Byte) (r : Record), decodeBlock bytes = .ok r →
    decodeBlock (bytes.take r.length ++ rest) = .ok r

/-- The length is fixed by the first two bytes at most (30_encoding.md section 2). -/
def Obligations.LengthIsFixedByTwoBytes : Prop :=
  ∀ (a b : List Byte) (r q : Record), a.take 2 = b.take 2 → decodeBlock a = .ok r → decodeBlock b = .ok q →
    r.length = q.length ∧ r.prefixKind = q.prefixKind

/-- The causes of Truncated, the complete list of 60_exceptions.md section 1, by how many bytes there
are.  The first clause, that no byte is Truncated, is the spec's decision D7 (log entry 3). -/
def Obligations.TruncatedExactlyWhenBytesAreMissing : Prop :=
  (decodeBlock [] = .err .truncated) ∧
  (∀ b0 : Byte, decodeBlock [b0] = .err .truncated ↔
    Config.isPrefixByte b0 = true ∨ shape .none (classify b0) ≠ ⟨0, .none⟩) ∧
  (∀ b0 b1 : Byte, decodeBlock [b0, b1] = .err .truncated ↔
    ((b0 = 0xDD#8 ∨ b0 = 0xFD#8) ∧ (b1 = 0xCB#8 ∨ shape .dd (classify b1) ≠ ⟨0, .none⟩)) ∨
    (Config.isPrefixByte b0 = false ∧ shape .none (classify b0) = ⟨0, .word⟩)) ∧
  (∀ b0 b1 b2 : Byte, decodeBlock [b0, b1, b2] = .err .truncated ↔
    (b0 = 0xDD#8 ∨ b0 = 0xFD#8) ∧ (b1 = 0xCB#8 ∨ shape .dd (classify b1) = ⟨0, .word⟩ ∨
      shape .dd (classify b1) = ⟨1, .byte⟩)) ∧
  ∀ bytes : List Byte, 4 ≤ bytes.length → decodeBlock bytes ≠ .err .truncated

/-- R223: the same bytes are Truncated again; more bytes after a record change nothing; and a Truncated
input extended to four bytes gives a record. -/
def Obligations.ExtendingATruncatedInput : Prop :=
  (∀ (bytes more : List Byte) (r : Record), decodeBlock bytes = .ok r → decodeBlock (bytes ++ more) = .ok r) ∧
  ∀ bytes more : List Byte, decodeBlock bytes = .err .truncated → 4 ≤ (bytes ++ more).length →
    ∃ r, decodeBlock (bytes ++ more) = .ok r ∧ bytes.length < r.length

/-- R30: every record DECODE gives meets the invariants (a) to (e). -/
def Obligations.RecordsMeetTheirInvariants : Prop :=
  ∀ (bytes : List Byte) (r : Record), decodeBlock bytes = .ok r → RecordSound r

/-- R115: FD is dispatched as DD is, and under DD and under FD everything but the kind is the same. -/
def Obligations.DdAndFdDifferInTheKindOnly : Prop :=
  (∀ b1 rest, b1 ≠ 0xCB#8 → prefixDispatch (0xFD#8 :: b1 :: rest) = .ok ⟨.fd, 1, none⟩) ∧
  decodeBlock [0xFD#8] = .err .truncated ∧
  ∀ rest : List Byte,
    (decodeBlock (0xDD#8 :: rest) = .err .truncated ↔ decodeBlock (0xFD#8 :: rest) = .err .truncated) ∧
    ∀ r, decodeBlock (0xDD#8 :: rest) = .ok r →
      (r.prefixKind = .dd ∧ decodeBlock (0xFD#8 :: rest) = .ok { r with prefixKind := .fd }) ∨
      (r.prefixKind = .ddcb ∧ decodeBlock (0xFD#8 :: rest) = .ok { r with prefixKind := .fdcb })

/-- No prefix chains (30_encoding.md section 4; the spec's decision D11): after a prefix byte the next
byte is the base opcode, a prefix value too, but for 0xCB after DD or FD. -/
def Obligations.NoPrefixChains : Prop :=
  (∀ pk ∈ xyPrefixes, ∀ b ∈ [0xDD#8, 0xED#8, 0xFD#8], ∀ rest,
    decodeBlock (pk.1 :: b :: rest) = .ok ⟨pk.2, classify b, none, none, 2⟩) ∧
  ∀ (bytes : List Byte) (r : Record), decodeBlock bytes = .ok r →
    ∃ b, bytes[baseIndexOf r.prefixKind]? = some b ∧ r.opcode = classify b

/-! ### The ports -/

/-- The input ports (10_state.md section 3; the spec's decision D2): bytes at index `avail` and above
are ignored, and 4 to 7 on `avail` are the same. -/
def Obligations.StaleInputBytesAreIgnored : Prop :=
  (∀ (v w : Window) (avail : BitVec 3), inputBytes v avail = inputBytes w avail →
    evalPorts v avail = evalPorts w avail) ∧
  (∀ (w : Window) (avail : BitVec 3), 4 ≤ avail.toNat → evalPorts w avail = evalPorts w 4) ∧
  (∀ a b c d e f g : Byte,
    evalPorts ⟨a, b, c, d⟩ 0 = evalPorts ⟨e, f, g, a⟩ 0 ∧
    evalPorts ⟨a, b, c, d⟩ 1 = evalPorts ⟨a, e, f, g⟩ 1 ∧
    evalPorts ⟨a, b, c, d⟩ 2 = evalPorts ⟨a, b, e, f⟩ 2 ∧
    evalPorts ⟨a, b, c, d⟩ 3 = evalPorts ⟨a, b, c, e⟩ 3) ∧
  ∀ w : Window, (evalPorts w 0).status = 1

/-- The output ports (10_state.md section 3; the spec's decisions D3 to D6, log entry 3): they carry
the record whole, each kind under the code of D3, and nothing but `status` when the result is Truncated. -/
def Obligations.OutputPortsCarryTheResult : Prop :=
  ∀ (w : Window) (avail : BitVec 3),
    (∀ r, decodeBlock (inputBytes w avail) = .ok r →
      let o := evalPorts w avail
      o.status = 0 ∧
      (o.prefixCode = 0 ↔ r.prefixKind = .none) ∧ (o.prefixCode = 1 ↔ r.prefixKind = .cb) ∧
      (o.prefixCode = 2 ↔ r.prefixKind = .dd) ∧ (o.prefixCode = 3 ↔ r.prefixKind = .ed) ∧
      (o.prefixCode = 4 ↔ r.prefixKind = .fd) ∧ (o.prefixCode = 5 ↔ r.prefixKind = .ddcb) ∧
      (o.prefixCode = 6 ↔ r.prefixKind = .fdcb) ∧ o.prefixCode ≠ 7 ∧ o.opRaw = r.opcode.raw ∧
      o.opX.toNat = r.opcode.x.toNat ∧ o.opY.toNat = r.opcode.y.toNat ∧ o.opZ.toNat = r.opcode.z.toNat ∧
      o.opP.toNat = r.opcode.p.toNat ∧ o.opQ.toNat = r.opcode.q.toNat ∧
      r.displacement = (if o.dispPresent = 1 then some o.disp.toInt else none) ∧
      (o.dispPresent = 0 → o.disp = 0) ∧ o.immKind ≠ 3 ∧
      (o.immKind = 0 → r.immediate = none ∧ o.imm = 0) ∧
      (o.immKind = 1 → ∃ n : Byte, r.immediate = some (.byte n) ∧ o.imm.toNat = n.toNat) ∧
      (o.immKind = 2 → r.immediate = some (.word o.imm)) ∧
      o.length.toNat = r.length) ∧
    (decodeBlock (inputBytes w avail) = .err .truncated →
      evalPorts w avail = ⟨1, 0, 0, 0, 0, 0, 0, 0, 0, 0, 0, 0, 0⟩)

/-! ### Encoding -/

/-- The bytes of an encoded well-formed instruction decode to it, whatever follows them. -/
def Obligations.DecodeOfEncode : Prop :=
  ∀ (i : Instr) (rest : List Byte), i.wf = true → decode (encode i ++ rest) = .ok i rest

/-- Where bytes decode, they are the encoding of a well-formed instruction: each has one meaning. -/
def Obligations.EncodeOfDecode : Prop :=
  ∀ (bytes rest : List Byte) (i : Instr), decode bytes = .ok i rest → i.wf = true ∧ encode i ++ rest = bytes

/-- Words written out from the encodings of the opcode table, one or more of each format. -/
def Obligations.SampleWordsDecode : Prop :=
  decode [0b00111110#8, 0x42#8] = .ok (.nX0Z6 7 0x42) [] ∧
  decode [0b00100001#8, 0x34#8, 0x12#8] = .ok (.nX0Z1Q0 2 0x1234) [] ∧
  decode [0b00101000#8, 0xFE#8] = .ok (.nX0Z0Rel 5 0xFE) [] ∧
  decode [0b01111000#8, 0x00#8] = .ok (.nX1 7 0) [0x00#8] ∧
  decode [0xCB#8, 0b01000110#8] = .ok (.cbAny 0x46) [] ∧
  decode [0xED#8, 0b10110000#8] = .ok (.edAny 0xB0) [] ∧
  decode [0xDD#8, 0b00110110#8, 0x05#8, 0x42#8] = .ok (.ddIdxX0Z6 0x05 0x42) [] ∧
  decode [0xFD#8, 0b01111110#8, 0x02#8] = .ok (.fdIdxX1Z6 7 0x02) [] ∧
  decode [0xDD#8, 0xCB#8, 0x05#8, 0b01000110#8] = .ok (.ddcbAny 0x05 0x46) [] ∧
  decode [0xFD#8, 0xCB#8, 0xFE#8, 0b01111110#8] = .ok (.fdcbAny 0xFE 0x7E) [] ∧
  decode [0x21#8, 0x34#8] = .truncated ∧ decode [] = .truncated

/-! ### The machine -/

/-- One step is `exec` of the instruction at the input ports, at that very state (nothing is added
around it: `exec`'s record carries the length the caller advances by). -/
def Obligations.StepRunsTheDecodedInstruction : Prop :=
  ∀ (s : State) (i : Instr) (rest : List Byte), decode s.input = .ok i rest → step s = exec i s

/-- An instruction placed in the stream where the next evaluation looks is the one the next step runs. -/
def Obligations.PlacedInstructionRuns : Prop :=
  ∀ (s : State) (i : Instr), i.wf = true →
    step (placeAtOffset s (encode i)) = exec i (placeAtOffset s (encode i))

/-- R197: one step is one DECODE of the bytes at the input ports.  The step goes through the opcode
table and the instructions' meanings, DECODE through the rules' pseudocode: the two agree on every
input. -/
def Obligations.StepIsDecode : Prop :=
  ∀ s : State, StepsTo s fun t => t.result = decodeBlock s.input

/-- Every well-formed instruction completes in every state, with the record DECODE gives its bytes,
whatever follows them; the caller has advanced by its bytes and no byte of the stream has changed. -/
def Obligations.ExecIsDecodeOfTheEncoding : Prop :=
  ∀ (i : Instr) (s : State) (rest : List Byte), i.wf = true →
    ExecsTo i s fun t =>
      t.result = decodeBlock (encode i ++ rest) ∧ t.off = s.off + (encode i).length ∧
      (∀ a, t.stream.read a = s.stream.read a) ∧ t.input = s.stream.bytesAt t.off Config.window

/-- No hidden state (R24): two steps on the same input bytes give the same result, whatever else the
two states hold. -/
def Obligations.NoHiddenState : Prop :=
  ∀ s t : State, s.input = t.input →
    ∃ u v, step s = .next u ∧ step t = .next v ∧ u.result = v.result ∧ u.sampledOutputs = v.sampledOutputs

/-- Nothing stops the machine: every step and every instruction goes on.  60_exceptions.md section 1 says
that no input makes the block stop without a result; that a truncated step goes on is the model's reading
(log entry 9), and that `exec` goes on for an ill-formed term too is the model's choice (log entry 19). -/
def Obligations.NothingStopsTheMachine : Prop :=
  (∀ s : State, ∃ t, step s = .next t) ∧ ∀ (i : Instr) (s : State), ∃ t, exec i s = .next t

/-- The result a step leaves is what the output ports carried for the inputs it saw. -/
def Obligations.StepSamplesTheOutputPorts : Prop :=
  ∀ s : State, StepsTo s fun t => t.sampledOutputs = s.outputs

/-- On Truncated nothing is consumed (60_exceptions.md section 2): offset, stream and ports stay as they
were.  That the step goes on and reports it is the model's reading (log entry 9), and so is that the next
step does the same (log entry 14). -/
def Obligations.TruncatedConsumesNothing : Prop :=
  ∀ s : State, decodeBlock s.input = .err .truncated →
    StepsTo s fun t =>
      t.result = .err .truncated ∧ t.off = s.off ∧ (∀ a, t.stream.read a = s.stream.read a) ∧
      t.win = s.win ∧ t.avail = s.avail ∧ step t = .next t

/-- The frame of every instruction: the stream keeps every byte, the result is a record, the offset
advances by its length, 1 to 4, and a wire of `win` without a byte of the stream keeps its value. -/
def Obligations.ExecFrame : Prop :=
  ∀ (i : Instr) (s t : State), exec i s = .next t →
    (∀ a, t.stream.read a = s.stream.read a) ∧
    (∃ r, t.result = .ok r ∧ t.off = s.off + r.length ∧ 1 ≤ r.length ∧ r.length ≤ 4) ∧
    t.input = t.stream.bytesAt t.off Config.window ∧ t.avail.toNat = t.input.length ∧
    (t.avail.toNat < 1 → t.win.b0 = s.win.b0) ∧ (t.avail.toNat < 2 → t.win.b1 = s.win.b1) ∧
    (t.avail.toNat < 3 → t.win.b2 = s.win.b2) ∧ (t.avail.toNat < 4 → t.win.b3 = s.win.b3)

/-! ### Each instruction completes: the rows of the opcode table -/

/-- Format N, the rows without operand bytes (R131, R134, R135, R137 to R139, R141 to R145, R150, R151,
R153, R156): length 1.  That X3Z4 takes nothing is the spec's decision D10 (log entry 2); that the caller
advances and presents the stream within the step is the model's choice (log entry 8). -/
def Obligations.FormatNRowsWithoutOperands : Prop :=
  ∀ (s : State) (y z : BitVec 3) (p : BitVec 2),
    (y.toNat < 4 → Delivers (.nX0Z0Lo y) s .none (byteXYZ 0 y.toNat 0) none none 1) ∧
    Delivers (.nX0Z1Q1 p) s .none (byteXYZ 0 (2 * p.toNat + 1) 1) none none 1 ∧
    (y.toNat < 4 → Delivers (.nX0Z2Plo y) s .none (byteXYZ 0 y.toNat 2) none none 1) ∧
    Delivers (.nX0Z3 y) s .none (byteXYZ 0 y.toNat 3) none none 1 ∧
    Delivers (.nX0Z4 y) s .none (byteXYZ 0 y.toNat 4) none none 1 ∧
    Delivers (.nX0Z5 y) s .none (byteXYZ 0 y.toNat 5) none none 1 ∧
    Delivers (.nX0Z7 y) s .none (byteXYZ 0 y.toNat 7) none none 1 ∧
    Delivers (.nX1 y z) s .none (byteXYZ 1 y.toNat z.toNat) none none 1 ∧
    Delivers (.nX2 y z) s .none (byteXYZ 2 y.toNat z.toNat) none none 1 ∧
    Delivers (.nX3Z0 y) s .none (byteXYZ 3 y.toNat 0) none none 1 ∧
    Delivers (.nX3Z1 y) s .none (byteXYZ 3 y.toNat 1) none none 1 ∧
    (4 ≤ y.toNat → Delivers (.nX3Z3Yhi y) s .none (byteXYZ 3 y.toNat 3) none none 1) ∧
    Delivers (.nX3Z4 y) s .none (byteXYZ 3 y.toNat 4) none none 1 ∧
    (p ≠ 0 → Delivers (.nX3Z5Q0p p) s .none (byteXYZ 3 (2 * p.toNat) 5) none none 1) ∧
    Delivers (.nX3Z7 y) s .none (byteXYZ 3 y.toNat 7) none none 1

/-- Format N, the rows with operand bytes (R132, R133, R136, R140, R146, R147, R149, R152, R155).  The
caller's advance within the step is the model's choice (log entry 8). -/
def Obligations.FormatNRowsWithOperands : Prop :=
  ∀ (s : State) (y : BitVec 3) (p : BitVec 2) (q : BitVec 1) (d n : Byte) (nn : Word16),
    (4 ≤ y.toNat → Delivers (.nX0Z0Rel y d) s .none (byteXYZ 0 y.toNat 0) (some (sext8 d)) none 2) ∧
    Delivers (.nX0Z1Q0 p nn) s .none (byteXYZ 0 (2 * p.toNat) 1) none (some (.word nn)) 3 ∧
    (4 ≤ y.toNat → Delivers (.nX0Z2Phi y nn) s .none (byteXYZ 0 y.toNat 2) none (some (.word nn)) 3) ∧
    Delivers (.nX0Z6 y n) s .none (byteXYZ 0 y.toNat 6) none (some (.byte n)) 2 ∧
    Delivers (.nX3Z2 y nn) s .none (byteXYZ 3 y.toNat 2) none (some (.word nn)) 3 ∧
    Delivers (.nX3Z3Y0 nn) s .none 0xC3#8 none (some (.word nn)) 3 ∧
    (y = 2 ∨ y = 3 → Delivers (.nX3Z3Y23 y n) s .none (byteXYZ 3 y.toNat 3) none (some (.byte n)) 2) ∧
    Delivers (.nX3Z5P0 q nn) s .none (byteXYZ 3 q.toNat 5) none (some (.word nn)) 3 ∧
    Delivers (.nX3Z6 y n) s .none (byteXYZ 3 y.toNat 6) none (some (.byte n)) 2

/-- Format XY under DD and FD, the rows without operand bytes (R131, R134, R135, R137 to R139, R141 to
R145, R150, R151, R153, R154, R156, R166): length 2, but for the indexed forms.  Three decisions of the
spec stand in it: which forms are indexed is D8 (log entry 1), that X3Z4 takes nothing is D10 (log entry
2), that the bytes of X3Z5.Q1P are base opcodes here is D11 (log entry 1).  The caller's advance within
the step is the model's choice (log entry 8). -/
def Obligations.FormatXyRowsWithoutOperands : Prop :=
  ∀ (s : State) (y z : BitVec 3) (p : BitVec 2),
    (y.toNat < 4 → Delivers (.ddX0Z0Lo y) s .dd (byteXYZ 0 y.toNat 0) none none 2) ∧
    Delivers (.ddX0Z1Q1 p) s .dd (byteXYZ 0 (2 * p.toNat + 1) 1) none none 2 ∧
    (y.toNat < 4 → Delivers (.ddX0Z2Plo y) s .dd (byteXYZ 0 y.toNat 2) none none 2) ∧
    Delivers (.ddX0Z3 y) s .dd (byteXYZ 0 y.toNat 3) none none 2 ∧
    (y ≠ 6 → Delivers (.ddX0Z4 y) s .dd (byteXYZ 0 y.toNat 4) none none 2) ∧
    (y ≠ 6 → Delivers (.ddX0Z5 y) s .dd (byteXYZ 0 y.toNat 5) none none 2) ∧
    Delivers (.ddX0Z7 y) s .dd (byteXYZ 0 y.toNat 7) none none 2 ∧
    (y ≠ 6 ∧ z ≠ 6 → Delivers (.ddX1 y z) s .dd (byteXYZ 1 y.toNat z.toNat) none none 2) ∧
    (z ≠ 6 → Delivers (.ddX2 y z) s .dd (byteXYZ 2 y.toNat z.toNat) none none 2) ∧
    Delivers (.ddX3Z0 y) s .dd (byteXYZ 3 y.toNat 0) none none 2 ∧
    Delivers (.ddX3Z1 y) s .dd (byteXYZ 3 y.toNat 1) none none 2 ∧
    (4 ≤ y.toNat → Delivers (.ddX3Z3Yhi y) s .dd (byteXYZ 3 y.toNat 3) none none 2) ∧
    Delivers (.ddX3Z4 y) s .dd (byteXYZ 3 y.toNat 4) none none 2 ∧
    (p ≠ 0 → Delivers (.ddX3Z5Q0p p) s .dd (byteXYZ 3 (2 * p.toNat) 5) none none 2) ∧
    (p ≠ 0 → Delivers (.ddX3Z5Q1p p) s .dd (byteXYZ 3 (2 * p.toNat + 1) 5) none none 2) ∧
    Delivers (.ddX3Z7 y) s .dd (byteXYZ 3 y.toNat 7) none none 2 ∧
    Delivers .ddX1Y6Z6 s .dd (byteXYZ 1 6 6) none none 2 ∧
    (y.toNat < 4 → Delivers (.fdX0Z0Lo y) s .fd (byteXYZ 0 y.toNat 0) none none 2) ∧
    Delivers (.fdX0Z1Q1 p) s .fd (byteXYZ 0 (2 * p.toNat + 1) 1) none none 2 ∧
    (y.toNat < 4 → Delivers (.fdX0Z2Plo y) s .fd (byteXYZ 0 y.toNat 2) none none 2) ∧
    Delivers (.fdX0Z3 y) s .fd (byteXYZ 0 y.toNat 3) none none 2 ∧
    (y ≠ 6 → Delivers (.fdX0Z4 y) s .fd (byteXYZ 0 y.toNat 4) none none 2) ∧
    (y ≠ 6 → Delivers (.fdX0Z5 y) s .fd (byteXYZ 0 y.toNat 5) none none 2) ∧
    Delivers (.fdX0Z7 y) s .fd (byteXYZ 0 y.toNat 7) none none 2 ∧
    (y ≠ 6 ∧ z ≠ 6 → Delivers (.fdX1 y z) s .fd (byteXYZ 1 y.toNat z.toNat) none none 2) ∧
    (z ≠ 6 → Delivers (.fdX2 y z) s .fd (byteXYZ 2 y.toNat z.toNat) none none 2) ∧
    Delivers (.fdX3Z0 y) s .fd (byteXYZ 3 y.toNat 0) none none 2 ∧
    Delivers (.fdX3Z1 y) s .fd (byteXYZ 3 y.toNat 1) none none 2 ∧
    (4 ≤ y.toNat → Delivers (.fdX3Z3Yhi y) s .fd (byteXYZ 3 y.toNat 3) none none 2) ∧
    Delivers (.fdX3Z4 y) s .fd (byteXYZ 3 y.toNat 4) none none 2 ∧
    (p ≠ 0 → Delivers (.fdX3Z5Q0p p) s .fd (byteXYZ 3 (2 * p.toNat) 5) none none 2) ∧
    (p ≠ 0 → Delivers (.fdX3Z5Q1p p) s .fd (byteXYZ 3 (2 * p.toNat + 1) 5) none none 2) ∧
    Delivers (.fdX3Z7 y) s .fd (byteXYZ 3 y.toNat 7) none none 2 ∧
    Delivers .fdX1Y6Z6 s .fd (byteXYZ 1 6 6) none none 2

/-- Format XY under DD and FD, the rows with the operand bytes of the unprefixed table (R132, R133, R136,
R140, R146, R147, R149, R152, R155).  That X0Z6 leaves out just y = 6 as an indexed form is the spec's
decision D8 (log entry 1); the caller's advance within the step is the model's choice (log entry 8). -/
def Obligations.FormatXyRowsWithOperands : Prop :=
  ∀ (s : State) (y : BitVec 3) (p : BitVec 2) (q : BitVec 1) (d n : Byte) (nn : Word16),
    (4 ≤ y.toNat → Delivers (.ddX0Z0Rel y d) s .dd (byteXYZ 0 y.toNat 0) (some (sext8 d)) none 3) ∧
    Delivers (.ddX0Z1Q0 p nn) s .dd (byteXYZ 0 (2 * p.toNat) 1) none (some (.word nn)) 4 ∧
    (4 ≤ y.toNat → Delivers (.ddX0Z2Phi y nn) s .dd (byteXYZ 0 y.toNat 2) none (some (.word nn)) 4) ∧
    (y ≠ 6 → Delivers (.ddX0Z6 y n) s .dd (byteXYZ 0 y.toNat 6) none (some (.byte n)) 3) ∧
    Delivers (.ddX3Z2 y nn) s .dd (byteXYZ 3 y.toNat 2) none (some (.word nn)) 4 ∧
    Delivers (.ddX3Z3Y0 nn) s .dd (byteXYZ 3 0 3) none (some (.word nn)) 4 ∧
    (y = 2 ∨ y = 3 → Delivers (.ddX3Z3Y23 y n) s .dd (byteXYZ 3 y.toNat 3) none (some (.byte n)) 3) ∧
    Delivers (.ddX3Z5P0 q nn) s .dd (byteXYZ 3 q.toNat 5) none (some (.word nn)) 4 ∧
    Delivers (.ddX3Z6 y n) s .dd (byteXYZ 3 y.toNat 6) none (some (.byte n)) 3 ∧
    (4 ≤ y.toNat → Delivers (.fdX0Z0Rel y d) s .fd (byteXYZ 0 y.toNat 0) (some (sext8 d)) none 3) ∧
    Delivers (.fdX0Z1Q0 p nn) s .fd (byteXYZ 0 (2 * p.toNat) 1) none (some (.word nn)) 4 ∧
    (4 ≤ y.toNat → Delivers (.fdX0Z2Phi y nn) s .fd (byteXYZ 0 y.toNat 2) none (some (.word nn)) 4) ∧
    (y ≠ 6 → Delivers (.fdX0Z6 y n) s .fd (byteXYZ 0 y.toNat 6) none (some (.byte n)) 3) ∧
    Delivers (.fdX3Z2 y nn) s .fd (byteXYZ 3 y.toNat 2) none (some (.word nn)) 4 ∧
    Delivers (.fdX3Z3Y0 nn) s .fd (byteXYZ 3 0 3) none (some (.word nn)) 4 ∧
    (y = 2 ∨ y = 3 → Delivers (.fdX3Z3Y23 y n) s .fd (byteXYZ 3 y.toNat 3) none (some (.byte n)) 3) ∧
    Delivers (.fdX3Z5P0 q nn) s .fd (byteXYZ 3 q.toNat 5) none (some (.word nn)) 4 ∧
    Delivers (.fdX3Z6 y n) s .fd (byteXYZ 3 y.toNat 6) none (some (.byte n)) 3

/-- Format XY under DD and FD, the indexed forms (R161 to R165, R167; the spec's decisions D8 and D9, log
entry 1).  The caller's advance within the step is the model's choice (log entry 8). -/
def Obligations.FormatXyIndexedRows : Prop :=
  ∀ (s : State) (y z : BitVec 3) (d n : Byte),
    Delivers (.ddIdxX0Z4 d) s .dd (byteXYZ 0 6 4) (some (sext8 d)) none 3 ∧
    Delivers (.ddIdxX0Z5 d) s .dd (byteXYZ 0 6 5) (some (sext8 d)) none 3 ∧
    Delivers (.ddIdxX0Z6 d n) s .dd (byteXYZ 0 6 6) (some (sext8 d)) (some (.byte n)) 4 ∧
    (y ≠ 6 → Delivers (.ddIdxX1Z6 y d) s .dd (byteXYZ 1 y.toNat 6) (some (sext8 d)) none 3) ∧
    (z ≠ 6 → Delivers (.ddIdxX1Y6 z d) s .dd (byteXYZ 1 6 z.toNat) (some (sext8 d)) none 3) ∧
    Delivers (.ddIdxX2Z6 y d) s .dd (byteXYZ 2 y.toNat 6) (some (sext8 d)) none 3 ∧
    Delivers (.fdIdxX0Z4 d) s .fd (byteXYZ 0 6 4) (some (sext8 d)) none 3 ∧
    Delivers (.fdIdxX0Z5 d) s .fd (byteXYZ 0 6 5) (some (sext8 d)) none 3 ∧
    Delivers (.fdIdxX0Z6 d n) s .fd (byteXYZ 0 6 6) (some (sext8 d)) (some (.byte n)) 4 ∧
    (y ≠ 6 → Delivers (.fdIdxX1Z6 y d) s .fd (byteXYZ 1 y.toNat 6) (some (sext8 d)) none 3) ∧
    (z ≠ 6 → Delivers (.fdIdxX1Y6 z d) s .fd (byteXYZ 1 6 z.toNat) (some (sext8 d)) none 3) ∧
    Delivers (.fdIdxX2Z6 y d) s .fd (byteXYZ 2 y.toNat 6) (some (sext8 d)) none 3

/-- The formats CB, ED and XYCB (R170, R171, R172).  The caller's advance within the step is the model's
choice (log entry 8). -/
def Obligations.FormatCbEdAndCompositeRows : Prop :=
  ∀ (s : State) (op d : Byte),
    Delivers (.cbAny op) s .cb op none none 2 ∧ Delivers (.edAny op) s .ed op none none 2 ∧
    Delivers (.ddcbAny d op) s .ddcb op (some (sext8 d)) none 4 ∧
    Delivers (.fdcbAny d op) s .fdcb op (some (sext8 d)) none 4

/-! ### Invariants -/

/-- The state after reset meets the invariant (its values are the model's choices, log entries 5
and 6). -/
def Obligations.ResetMeetsTheInvariant : Prop := MachineInv State.reset

/-- What reset leaves: by 10_state.md section 4 `avail` = 0 gives `status` = TRUNCATED; that the reset
state has `avail` 0, no stream and offset 0 is the model's choice (log entries 5 and 6). -/
def Obligations.ResetReportsTruncated : Prop :=
  State.reset.outputs.status = 1 ∧ State.reset.sampledOutputs = State.reset.outputs ∧
  State.reset.stream = [] ∧ State.reset.off = 0 ∧ State.reset.avail = 0

/-- Every step keeps the invariant: the stream in canonical form, the ports showing the stream at the
offset, the result Truncated or a record that meets R30. -/
def Obligations.StepKeepsTheInvariant : Prop := ∀ s t : State, MachineInv s → step s = .next t → MachineInv t

/-- The caller's operations that present the stream keep the invariant, and loading a sequence gives the
stream of R40.  The exception is `State.drive` (log entry 17): it sets the input ports past the stream, so
the ports need not show the stream after it; it leaves everything else, and presenting again, at any
offset, restores the invariant. -/
def Obligations.CallerOperationsKeepTheInvariant : Prop :=
  ∀ s : State, MachineInv s →
    (∀ bytes, MachineInv (s.load bytes) ∧ (s.load bytes).stream.isSequence ∧ (s.load bytes).remaining = bytes) ∧
    (∀ off, MachineInv (s.seek off)) ∧ (∀ bytes, MachineInv (s.supply bytes)) ∧ (∀ a b, MachineInv (s.rewrite a b)) ∧
    (∀ nbits w, MachineInv (s.withFetchWord nbits w)) ∧
    ∀ win avail, (s.drive win avail).stream = s.stream ∧ (s.drive win avail).off = s.off ∧
      (s.drive win avail).result = s.result ∧ (s.drive win avail).input = inputBytes win avail ∧
      ∀ off, MachineInv ((s.drive win avail).seek off)

/-! ### The caller's walk -/

/-- A step that gives a record takes bytes that are there: the offset never runs past the stream
(43_record_assembly.md section 4; the spec's decision D12). -/
def Obligations.AdvanceStaysInTheStream : Prop :=
  ∀ (s t : State) (r : Record), MachineInv s → step s = .next t → t.result = .ok r →
    t.off = s.off + r.length ∧ ∀ a, s.off ≤ a → a < t.off → (s.stream.read a).isSome

/-- A walk ends (43_record_assembly.md section 4): cleanly when the records' lengths take up all the
bytes, or with Truncated at the offset they lead to. -/
def Obligations.WalkEnds : Prop :=
  ∀ (bytes : List Byte) (off : Nat),
    let total := ((walk bytes off).1.map Record.length).sum
    ((walk bytes off).2 = .clean (off + total) ∧ total = bytes.length) ∨
    ((walk bytes off).2 = .truncated (off + total) ∧ total < bytes.length ∧
      decodeBlock (bytes.drop total) = .err .truncated)

/-- The walk of a stream is the machine run: the k-th step from a state that meets the invariant leaves
the k-th record of the walk, and after the last one the offset is where the walk ends. -/
def Obligations.WalkIsTheMachineRun : Prop :=
  ∀ s : State, MachineInv s →
    (∀ k r, (walk s.remaining s.off).1[k]? = some r →
      ∃ t, core.run (k + 1) s = .next t ∧ t.result = .ok r) ∧
    ∃ t, core.run (walk s.remaining s.off).1.length s = .next t ∧
      ((walk s.remaining s.off).2 = .clean t.off ∨
        ((walk s.remaining s.off).2 = .truncated t.off ∧ decodeBlock t.input = .err .truncated))

/-- A rewritten byte is seen by the next evaluation (20_memory.md section 6; the spec's decision D13):
the step after it decodes the stream as it then is, and every other byte is as before. -/
def Obligations.RewrittenByteIsSeen : Prop :=
  ∀ (s : State) (a : Nat) (b : Byte), MachineInv s → (s.stream.read a).isSome →
    (s.rewrite a b).stream.read a = some b ∧
    (∀ c, c ≠ a → (s.rewrite a b).stream.read c = s.stream.read c) ∧
    StepsTo (s.rewrite a b) fun t =>
      t.result = decodeBlock ((s.stream.write a b).bytesAt s.off Config.window)

/-- R223: after Truncated the caller requests more bytes: with the stream supplied to, the next step
gives the result of the bytes that were there followed by the new ones. -/
def Obligations.SupplyingMoreBytesResumes : Prop :=
  ∀ (s : State) (more : List Byte), MachineInv s → s.stream.isSequence → s.off ≤ s.stream.length →
    StepsTo (s.supply more) fun t =>
      t.result = decodeBlock ((s.remaining ++ more).take Config.window)

/-! ### A class that rests on decision D11 -/

/-- Class X3Z5.Q1P: its three bytes are prefix bytes, so they are never the base opcode of kind none; that
they are base opcodes of two-byte instructions under DD and FD is the spec's decision D11 (log entry 1). -/
def Obligations.ClassX3Z5Q1PUnderDdAndFd : Prop :=
  ClassTakes (fun f => f.x == 3 && f.z == 5 && f.q == 1 && f.p != 0) [0xDD#8, 0xED#8, 0xFD#8]
    (fun b => IndexedTakesNothing b ∧
      ∀ rest r, decodeBlock (b :: rest) = .ok r → r.prefixKind ≠ .none)
end

