-- ==== Sys2Proof/Laws/Memory.lean ====
section
/-! SUPPORT. The laws of the stream: what a write changes, and that every operation on it keeps the
canonical form. -/

namespace Sys2Proof.Machine

@[simp] theorem Memory.read_nil (a : Nat) : Memory.read [] a = none := rfl

theorem Memory.read_cons (k : Nat) (b : Byte) (m : Memory) (a : Nat) :
    Memory.read ((k, b) :: m) a = if k = a then some b else Memory.read m a := rfl

/-- A read of the address written gives the byte written. -/
@[simp] theorem Memory.read_write_same (m : Memory) (a : Nat) (b : Byte) : (m.write a b).read a = some b := by
  induction m with
  | nil => simp [Memory.write, Memory.read]
  | cons c m ih =>
    obtain ⟨k, x⟩ := c
    simp only [Memory.write]
    split
    · simp [Memory.read]
    · split
      · simp [Memory.read]
      · rw [Memory.read_cons, if_neg (by omega)]
        exact ih

/-- A write leaves every other address alone. -/
theorem Memory.read_write_other (m : Memory) {a c : Nat} (b : Byte) (h : c ≠ a) :
    (m.write a b).read c = m.read c := by
  induction m with
  | nil => simp [Memory.write, Memory.read, h.symm]
  | cons e m ih =>
    obtain ⟨k, x⟩ := e
    simp only [Memory.write]
    split
    · simp [Memory.read, h.symm]
    · split
      · rename_i hk
        rw [Memory.read_cons, Memory.read_cons, if_neg (Ne.symm h), if_neg (hk ▸ Ne.symm h)]
      · rw [Memory.read_cons, Memory.read_cons, ih]

/-- An address of the written stream is the new one or an old one. -/
theorem Memory.mem_write {m : Memory} {a : Nat} {b : Byte} {k : Nat}
    (h : k ∈ (m.write a b).map Prod.fst) : k = a ∨ k ∈ m.map Prod.fst := by
  induction m with
  | nil => simpa [Memory.write] using h
  | cons e m ih =>
    obtain ⟨j, x⟩ := e
    simp only [Memory.write] at h
    split at h
    · simpa using h
    · split at h
      · simp only [List.map_cons, List.mem_cons] at h ⊢
        exact h.imp id Or.inr
      · simp only [List.map_cons, List.mem_cons] at h ⊢
        rcases h with h | h
        · exact Or.inr (Or.inl h)
        · exact (ih h).imp id Or.inr

/-- A write keeps the canonical form. -/
theorem Memory.write_wf {m : Memory} (a : Nat) (b : Byte) (h : m.wf) : (m.write a b).wf := by
  induction m with
  | nil => simp [Memory.write, Memory.wf]
  | cons e m ih =>
    obtain ⟨k, x⟩ := e
    obtain ⟨first, rest⟩ := List.pairwise_cons.mp h
    simp only [Memory.write]
    split
    · rename_i hk
      refine List.pairwise_cons.mpr ⟨?_, h⟩
      intro j hj
      rcases List.mem_cons.mp hj with rfl | hj
      · exact hk
      · exact Nat.lt_trans hk (first j hj)
    · split
      · rename_i hk
        subst hk
        exact List.pairwise_cons.mpr ⟨first, rest⟩
      · refine List.pairwise_cons.mpr ⟨?_, ih rest⟩
        intro j hj
        rcases Memory.mem_write hj with rfl | hj
        · show k < _
          omega
        · exact first j hj

/-- Writing a byte sequence keeps the canonical form. -/
theorem Memory.writeBytes_wf {m : Memory} (a : Nat) (bytes : List Byte) (h : m.wf) :
    (m.writeBytes a bytes).wf := by
  induction bytes generalizing m a with
  | nil => exact h
  | cons b bytes ih => exact ih (a + 1) (Memory.write_wf a b h)

/-- A stream made of a byte sequence has the canonical form. -/
theorem Memory.ofBytes_wf (bytes : List Byte) : (Memory.ofBytes bytes).wf :=
  Memory.writeBytes_wf 0 bytes List.Pairwise.nil

/-- The reset stream has the canonical form. -/
theorem reset_stream_wf : State.reset.stream.wf := List.Pairwise.nil

/-- What writing a byte sequence leaves at an address. -/
theorem Memory.read_writeBytes (m : Memory) (a : Nat) (bytes : List Byte) (c : Nat) :
    (m.writeBytes a bytes).read c =
      if a ≤ c ∧ c < a + bytes.length then bytes[c - a]? else m.read c := by
  induction bytes generalizing m a with
  | nil => simp [Memory.writeBytes]
  | cons b bytes ih =>
    simp only [Memory.writeBytes, ih, List.length_cons]
    by_cases same : c = a
    · subst same
      simp
    · by_cases inside : a + 1 ≤ c ∧ c < a + 1 + bytes.length
      · rw [if_pos inside, if_pos (by omega), show c - a = (c - (a + 1)) + 1 by omega]
        rfl
      · rw [if_neg inside, if_neg (by omega), Memory.read_write_other m b same]

/-- At most `k` bytes are shown. -/
theorem Memory.length_bytesAt_le (m : Memory) (a k : Nat) : (m.bytesAt a k).length ≤ k := by
  induction k generalizing a with
  | zero => simp [Memory.bytesAt]
  | succ k ih =>
    simp only [Memory.bytesAt]
    split
    · simp
    · simpa using ih (a + 1)

/-- What is shown at index `i` is the byte at address `a + i`. -/
theorem Memory.getElem_bytesAt {m : Memory} {a k i : Nat} {b : Byte} (h : (m.bytesAt a k)[i]? = some b) :
    m.read (a + i) = some b := by
  induction k generalizing a i with
  | zero => simp [Memory.bytesAt] at h
  | succ k ih =>
    simp only [Memory.bytesAt] at h
    split at h
    · simp at h
    · rename_i c hc
      cases i with
      | zero =>
        simp only [List.getElem?_cons_zero, Option.some.injEq] at h
        simpa [← h] using hc
      | succ i =>
        rw [List.getElem?_cons_succ] at h
        rw [show a + (i + 1) = a + 1 + i by omega]
        exact ih h

/-- Showing fewer bytes shows the first of them. -/
theorem Memory.take_bytesAt (m : Memory) (a j k : Nat) (h : j ≤ k) :
    (m.bytesAt a k).take j = m.bytesAt a j := by
  induction j generalizing a k with
  | zero => simp [Memory.bytesAt]
  | succ j ih =>
    obtain ⟨k, rfl⟩ : ∃ n, k = n + 1 := ⟨k - 1, by omega⟩
    simp only [Memory.bytesAt]
    split
    · rfl
    · rw [List.take_succ_cons, ih (a + 1) k (by omega)]

end Sys2Proof.Machine
end

