-- ==== Sys2Proof/Laws/State.lean ====
section
/-! SUPPORT. One lemma for each field of State under each named operation, so that no proof unfolds a
record update. -/

namespace Sys2Proof.Machine

@[simp] theorem present_stream (s : State) : (present s).stream = s.stream := rfl
@[simp] theorem present_off (s : State) : (present s).off = s.off := rfl
@[simp] theorem present_result (s : State) : (present s).result = s.result := rfl
theorem present_win (s : State) :
    (present s).win = refill s.win (s.stream.bytesAt s.off Config.window) := rfl
theorem present_avail (s : State) :
    (present s).avail = BitVec.ofNat 3 (s.stream.bytesAt s.off Config.window).length := rfl

@[simp] theorem deliver_stream (r : Record) (s : State) : (deliver r s).stream = s.stream := rfl
@[simp] theorem deliver_off (r : Record) (s : State) : (deliver r s).off = s.off + r.length := rfl
@[simp] theorem deliver_result (r : Record) (s : State) : (deliver r s).result = .ok r := rfl
theorem deliver_win (r : Record) (s : State) :
    (deliver r s).win = refill s.win (s.stream.bytesAt (s.off + r.length) Config.window) := rfl
theorem deliver_avail (r : Record) (s : State) :
    (deliver r s).avail = BitVec.ofNat 3 (s.stream.bytesAt (s.off + r.length) Config.window).length := rfl

@[simp] theorem reportTruncated_stream (s : State) : (reportTruncated s).stream = s.stream := rfl
@[simp] theorem reportTruncated_off (s : State) : (reportTruncated s).off = s.off := rfl
@[simp] theorem reportTruncated_win (s : State) : (reportTruncated s).win = s.win := rfl
@[simp] theorem reportTruncated_avail (s : State) : (reportTruncated s).avail = s.avail := rfl
@[simp] theorem reportTruncated_result (s : State) : (reportTruncated s).result = .err .truncated := rfl
@[simp] theorem reportTruncated_input (s : State) : (reportTruncated s).input = s.input := rfl

@[simp] theorem load_stream (s : State) (bytes : List Byte) : (s.load bytes).stream = Memory.ofBytes bytes := rfl
@[simp] theorem load_off (s : State) (bytes : List Byte) : (s.load bytes).off = 0 := rfl
@[simp] theorem load_result (s : State) (bytes : List Byte) : (s.load bytes).result = s.result := rfl

@[simp] theorem seek_stream (s : State) (off : Nat) : (s.seek off).stream = s.stream := rfl
@[simp] theorem seek_off (s : State) (off : Nat) : (s.seek off).off = off := rfl
@[simp] theorem seek_result (s : State) (off : Nat) : (s.seek off).result = s.result := rfl

@[simp] theorem supply_stream (s : State) (bytes : List Byte) :
    (s.supply bytes).stream = s.stream.writeBytes s.stream.endAddr bytes := rfl
@[simp] theorem supply_off (s : State) (bytes : List Byte) : (s.supply bytes).off = s.off := rfl
@[simp] theorem supply_result (s : State) (bytes : List Byte) : (s.supply bytes).result = s.result := rfl

@[simp] theorem drive_stream (s : State) (w : Window) (a : BitVec 3) : (s.drive w a).stream = s.stream := rfl
@[simp] theorem drive_off (s : State) (w : Window) (a : BitVec 3) : (s.drive w a).off = s.off := rfl
@[simp] theorem drive_input (s : State) (w : Window) (a : BitVec 3) : (s.drive w a).input = inputBytes w a := rfl
@[simp] theorem drive_result (s : State) (w : Window) (a : BitVec 3) : (s.drive w a).result = s.result := rfl

@[simp] theorem placeAtOffset_stream (s : State) (bytes : List Byte) :
    (placeAtOffset s bytes).stream = s.stream.writeBytes s.off bytes := rfl
@[simp] theorem placeAtOffset_off (s : State) (bytes : List Byte) : (placeAtOffset s bytes).off = s.off := rfl
@[simp] theorem placeAtOffset_result (s : State) (bytes : List Byte) :
    (placeAtOffset s bytes).result = s.result := rfl

end Sys2Proof.Machine
end

