-- ==== Sys2Proof/Laws/Ops.lean ====
section
/-! SUPPORT. What each shared operation does, said once. -/

namespace Sys2Proof.Machine

/-- The input bytes are at most four. -/
theorem inputBytes_length (w : Window) (avail : BitVec 3) :
    (inputBytes w avail).length = min avail.toNat Config.window := by
  have h : Config.window = 4 := rfl
  simp only [inputBytes, List.length_take, List.length_cons, List.length_nil, h]
  omega

/-- Bytes put on the wires and counted at `avail` are the bytes the block sees. -/
theorem inputBytes_refill (old : Window) (bytes : List Byte) (h : bytes.length ≤ 4) :
    inputBytes (refill old bytes) (BitVec.ofNat 3 bytes.length) = bytes := by
  match bytes, h with
  | [], _ => rfl
  | [_], _ => rfl
  | [_, _], _ => rfl
  | [_, _, _], _ => rfl
  | [_, _, _, _], _ => rfl

/-- After presenting, the block sees the stream from the offset on. -/
theorem present_input (s : State) : (present s).input = s.stream.bytesAt s.off Config.window :=
  inputBytes_refill s.win _ (Memory.length_bytesAt_le _ _ _)

/-- Presenting establishes the ports' part of the invariant. -/
theorem present_coherent (s : State) : Coherent (present s) := by
  refine ⟨?_, present_input s⟩
  have h := Memory.length_bytesAt_le s.stream s.off Config.window
  have four : Config.window = 4 := rfl
  rw [present_avail, BitVec.toNat_ofNat]
  omega

/-- Presenting a well-formed stream meets the invariant. -/
theorem present_inv {s : State} (wf : s.stream.wf) (sound : ResultSound s.result) : MachineInv (present s) :=
  ⟨wf, present_coherent s, sound⟩

/-- Everything `deliver` does. -/
theorem deliver_spec (r : Record) (s : State) :
    (deliver r s).result = .ok r ∧ (deliver r s).off = s.off + r.length ∧
    (deliver r s).stream = s.stream ∧
    (deliver r s).input = s.stream.bytesAt (s.off + r.length) Config.window ∧ Coherent (deliver r s) :=
  ⟨rfl, rfl, rfl, present_input _, present_coherent _⟩

/-- Delivering a sound record keeps the invariant. -/
theorem deliver_inv {r : Record} {s : State} (h : MachineInv s) (sound : RecordSound r) : MachineInv (deliver r s) :=
  present_inv h.stream sound

/-- Reporting Truncated keeps the invariant. -/
theorem reportTruncated_inv {s : State} (h : MachineInv s) : MachineInv (reportTruncated s) :=
  ⟨h.stream, h.ports, trivial⟩

/-- Everything a step can do: run the instruction at the ports, report Truncated, or refuse a base
opcode without a row. -/
theorem step_cases (s : State) :
    (∃ i rest, decode s.input = .ok i rest ∧ step s = exec i s) ∨
    (decode s.input = .truncated ∧ step s = .next (reportTruncated s)) ∨
    (decode s.input = .noRow ∧ step s = .refused .noTableRow) := by
  unfold step fetch
  split
  · rename_i i rest h
    exact Or.inl ⟨i, rest, h, rfl⟩
  · rename_i h
    exact Or.inr (Or.inl ⟨h, rfl⟩)
  · rename_i h
    exact Or.inr (Or.inr ⟨h, rfl⟩)

end Sys2Proof.Machine
end

