-- ==== Sys2Proof/Laws/PerInstr.lean ====
section
/-! SUPPORT. Facts about each instruction as syntax: the length of its encoding (R200). -/

namespace Sys2Proof.Laws.EncodeLength

/-- An instruction's encoding has 1 to 4 bytes (R60). -/
def Statement (i : Instr) : Prop := 1 ≤ (encode i).length ∧ (encode i).length ≤ 4

theorem ofLength {i : Instr} (k : Nat) (h : (encode i).length = k) (low : 1 ≤ k) (high : k ≤ 4) : Statement i :=
  And.intro (h.symm ▸ low) (h.symm ▸ high)

theorem nX0Z0Lo (y : BitVec 3) : Statement (.nX0Z0Lo y) :=
  ofLength 1 rfl (by decide) (by decide)
theorem nX0Z0Rel (y : BitVec 3) (d : Byte) : Statement (.nX0Z0Rel y d) :=
  ofLength 2 rfl (by decide) (by decide)
theorem nX0Z1Q0 (p : BitVec 2) (nn : Word16) : Statement (.nX0Z1Q0 p nn) :=
  ofLength 3 rfl (by decide) (by decide)
theorem nX0Z1Q1 (p : BitVec 2) : Statement (.nX0Z1Q1 p) :=
  ofLength 1 rfl (by decide) (by decide)
theorem nX0Z2Plo (y : BitVec 3) : Statement (.nX0Z2Plo y) :=
  ofLength 1 rfl (by decide) (by decide)
theorem nX0Z2Phi (y : BitVec 3) (nn : Word16) : Statement (.nX0Z2Phi y nn) :=
  ofLength 3 rfl (by decide) (by decide)
theorem nX0Z3 (y : BitVec 3) : Statement (.nX0Z3 y) :=
  ofLength 1 rfl (by decide) (by decide)
theorem nX0Z4 (y : BitVec 3) : Statement (.nX0Z4 y) :=
  ofLength 1 rfl (by decide) (by decide)
theorem nX0Z5 (y : BitVec 3) : Statement (.nX0Z5 y) :=
  ofLength 1 rfl (by decide) (by decide)
theorem nX0Z6 (y : BitVec 3) (n : Byte) : Statement (.nX0Z6 y n) :=
  ofLength 2 rfl (by decide) (by decide)
theorem nX0Z7 (y : BitVec 3) : Statement (.nX0Z7 y) :=
  ofLength 1 rfl (by decide) (by decide)
theorem nX1 (y z : BitVec 3) : Statement (.nX1 y z) :=
  ofLength 1 rfl (by decide) (by decide)
theorem nX2 (y z : BitVec 3) : Statement (.nX2 y z) :=
  ofLength 1 rfl (by decide) (by decide)
theorem nX3Z0 (y : BitVec 3) : Statement (.nX3Z0 y) :=
  ofLength 1 rfl (by decide) (by decide)
theorem nX3Z1 (y : BitVec 3) : Statement (.nX3Z1 y) :=
  ofLength 1 rfl (by decide) (by decide)
theorem nX3Z2 (y : BitVec 3) (nn : Word16) : Statement (.nX3Z2 y nn) :=
  ofLength 3 rfl (by decide) (by decide)
theorem nX3Z3Y0 (nn : Word16) : Statement (.nX3Z3Y0 nn) :=
  ofLength 3 rfl (by decide) (by decide)
theorem nX3Z3Y23 (y : BitVec 3) (n : Byte) : Statement (.nX3Z3Y23 y n) :=
  ofLength 2 rfl (by decide) (by decide)
theorem nX3Z3Yhi (y : BitVec 3) : Statement (.nX3Z3Yhi y) :=
  ofLength 1 rfl (by decide) (by decide)
theorem nX3Z4 (y : BitVec 3) : Statement (.nX3Z4 y) :=
  ofLength 1 rfl (by decide) (by decide)
theorem nX3Z5P0 (q : BitVec 1) (nn : Word16) : Statement (.nX3Z5P0 q nn) :=
  ofLength 3 rfl (by decide) (by decide)
theorem nX3Z5Q0p (p : BitVec 2) : Statement (.nX3Z5Q0p p) :=
  ofLength 1 rfl (by decide) (by decide)
theorem nX3Z6 (y : BitVec 3) (n : Byte) : Statement (.nX3Z6 y n) :=
  ofLength 2 rfl (by decide) (by decide)
theorem nX3Z7 (y : BitVec 3) : Statement (.nX3Z7 y) :=
  ofLength 1 rfl (by decide) (by decide)
theorem ddX0Z0Lo (y : BitVec 3) : Statement (.ddX0Z0Lo y) :=
  ofLength 2 rfl (by decide) (by decide)
theorem ddX0Z0Rel (y : BitVec 3) (d : Byte) : Statement (.ddX0Z0Rel y d) :=
  ofLength 3 rfl (by decide) (by decide)
theorem ddX0Z1Q0 (p : BitVec 2) (nn : Word16) : Statement (.ddX0Z1Q0 p nn) :=
  ofLength 4 rfl (by decide) (by decide)
theorem ddX0Z1Q1 (p : BitVec 2) : Statement (.ddX0Z1Q1 p) :=
  ofLength 2 rfl (by decide) (by decide)
theorem ddX0Z2Plo (y : BitVec 3) : Statement (.ddX0Z2Plo y) :=
  ofLength 2 rfl (by decide) (by decide)
theorem ddX0Z2Phi (y : BitVec 3) (nn : Word16) : Statement (.ddX0Z2Phi y nn) :=
  ofLength 4 rfl (by decide) (by decide)
theorem ddX0Z3 (y : BitVec 3) : Statement (.ddX0Z3 y) :=
  ofLength 2 rfl (by decide) (by decide)
theorem ddX0Z4 (y : BitVec 3) : Statement (.ddX0Z4 y) :=
  ofLength 2 rfl (by decide) (by decide)
theorem ddX0Z5 (y : BitVec 3) : Statement (.ddX0Z5 y) :=
  ofLength 2 rfl (by decide) (by decide)
theorem ddX0Z6 (y : BitVec 3) (n : Byte) : Statement (.ddX0Z6 y n) :=
  ofLength 3 rfl (by decide) (by decide)
theorem ddX0Z7 (y : BitVec 3) : Statement (.ddX0Z7 y) :=
  ofLength 2 rfl (by decide) (by decide)
theorem ddX1 (y z : BitVec 3) : Statement (.ddX1 y z) :=
  ofLength 2 rfl (by decide) (by decide)
theorem ddX2 (y z : BitVec 3) : Statement (.ddX2 y z) :=
  ofLength 2 rfl (by decide) (by decide)
theorem ddX3Z0 (y : BitVec 3) : Statement (.ddX3Z0 y) :=
  ofLength 2 rfl (by decide) (by decide)
theorem ddX3Z1 (y : BitVec 3) : Statement (.ddX3Z1 y) :=
  ofLength 2 rfl (by decide) (by decide)
theorem ddX3Z2 (y : BitVec 3) (nn : Word16) : Statement (.ddX3Z2 y nn) :=
  ofLength 4 rfl (by decide) (by decide)
theorem ddX3Z3Y0 (nn : Word16) : Statement (.ddX3Z3Y0 nn) :=
  ofLength 4 rfl (by decide) (by decide)
theorem ddX3Z3Y23 (y : BitVec 3) (n : Byte) : Statement (.ddX3Z3Y23 y n) :=
  ofLength 3 rfl (by decide) (by decide)
theorem ddX3Z3Yhi (y : BitVec 3) : Statement (.ddX3Z3Yhi y) :=
  ofLength 2 rfl (by decide) (by decide)
theorem ddX3Z4 (y : BitVec 3) : Statement (.ddX3Z4 y) :=
  ofLength 2 rfl (by decide) (by decide)
theorem ddX3Z5P0 (q : BitVec 1) (nn : Word16) : Statement (.ddX3Z5P0 q nn) :=
  ofLength 4 rfl (by decide) (by decide)
theorem ddX3Z5Q0p (p : BitVec 2) : Statement (.ddX3Z5Q0p p) :=
  ofLength 2 rfl (by decide) (by decide)
theorem ddX3Z5Q1p (p : BitVec 2) : Statement (.ddX3Z5Q1p p) :=
  ofLength 2 rfl (by decide) (by decide)
theorem ddX3Z6 (y : BitVec 3) (n : Byte) : Statement (.ddX3Z6 y n) :=
  ofLength 3 rfl (by decide) (by decide)
theorem ddX3Z7 (y : BitVec 3) : Statement (.ddX3Z7 y) :=
  ofLength 2 rfl (by decide) (by decide)
theorem ddIdxX0Z4 (d : Byte) : Statement (.ddIdxX0Z4 d) :=
  ofLength 3 rfl (by decide) (by decide)
theorem ddIdxX0Z5 (d : Byte) : Statement (.ddIdxX0Z5 d) :=
  ofLength 3 rfl (by decide) (by decide)
theorem ddIdxX0Z6 (d n : Byte) : Statement (.ddIdxX0Z6 d n) :=
  ofLength 4 rfl (by decide) (by decide)
theorem ddIdxX1Z6 (y : BitVec 3) (d : Byte) : Statement (.ddIdxX1Z6 y d) :=
  ofLength 3 rfl (by decide) (by decide)
theorem ddIdxX1Y6 (z : BitVec 3) (d : Byte) : Statement (.ddIdxX1Y6 z d) :=
  ofLength 3 rfl (by decide) (by decide)
theorem ddX1Y6Z6 : Statement (.ddX1Y6Z6) :=
  ofLength 2 rfl (by decide) (by decide)
theorem ddIdxX2Z6 (y : BitVec 3) (d : Byte) : Statement (.ddIdxX2Z6 y d) :=
  ofLength 3 rfl (by decide) (by decide)
theorem fdX0Z0Lo (y : BitVec 3) : Statement (.fdX0Z0Lo y) :=
  ofLength 2 rfl (by decide) (by decide)
theorem fdX0Z0Rel (y : BitVec 3) (d : Byte) : Statement (.fdX0Z0Rel y d) :=
  ofLength 3 rfl (by decide) (by decide)
theorem fdX0Z1Q0 (p : BitVec 2) (nn : Word16) : Statement (.fdX0Z1Q0 p nn) :=
  ofLength 4 rfl (by decide) (by decide)
theorem fdX0Z1Q1 (p : BitVec 2) : Statement (.fdX0Z1Q1 p) :=
  ofLength 2 rfl (by decide) (by decide)
theorem fdX0Z2Plo (y : BitVec 3) : Statement (.fdX0Z2Plo y) :=
  ofLength 2 rfl (by decide) (by decide)
theorem fdX0Z2Phi (y : BitVec 3) (nn : Word16) : Statement (.fdX0Z2Phi y nn) :=
  ofLength 4 rfl (by decide) (by decide)
theorem fdX0Z3 (y : BitVec 3) : Statement (.fdX0Z3 y) :=
  ofLength 2 rfl (by decide) (by decide)
theorem fdX0Z4 (y : BitVec 3) : Statement (.fdX0Z4 y) :=
  ofLength 2 rfl (by decide) (by decide)
theorem fdX0Z5 (y : BitVec 3) : Statement (.fdX0Z5 y) :=
  ofLength 2 rfl (by decide) (by decide)
theorem fdX0Z6 (y : BitVec 3) (n : Byte) : Statement (.fdX0Z6 y n) :=
  ofLength 3 rfl (by decide) (by decide)
theorem fdX0Z7 (y : BitVec 3) : Statement (.fdX0Z7 y) :=
  ofLength 2 rfl (by decide) (by decide)
theorem fdX1 (y z : BitVec 3) : Statement (.fdX1 y z) :=
  ofLength 2 rfl (by decide) (by decide)
theorem fdX2 (y z : BitVec 3) : Statement (.fdX2 y z) :=
  ofLength 2 rfl (by decide) (by decide)
theorem fdX3Z0 (y : BitVec 3) : Statement (.fdX3Z0 y) :=
  ofLength 2 rfl (by decide) (by decide)
theorem fdX3Z1 (y : BitVec 3) : Statement (.fdX3Z1 y) :=
  ofLength 2 rfl (by decide) (by decide)
theorem fdX3Z2 (y : BitVec 3) (nn : Word16) : Statement (.fdX3Z2 y nn) :=
  ofLength 4 rfl (by decide) (by decide)
theorem fdX3Z3Y0 (nn : Word16) : Statement (.fdX3Z3Y0 nn) :=
  ofLength 4 rfl (by decide) (by decide)
theorem fdX3Z3Y23 (y : BitVec 3) (n : Byte) : Statement (.fdX3Z3Y23 y n) :=
  ofLength 3 rfl (by decide) (by decide)
theorem fdX3Z3Yhi (y : BitVec 3) : Statement (.fdX3Z3Yhi y) :=
  ofLength 2 rfl (by decide) (by decide)
theorem fdX3Z4 (y : BitVec 3) : Statement (.fdX3Z4 y) :=
  ofLength 2 rfl (by decide) (by decide)
theorem fdX3Z5P0 (q : BitVec 1) (nn : Word16) : Statement (.fdX3Z5P0 q nn) :=
  ofLength 4 rfl (by decide) (by decide)
theorem fdX3Z5Q0p (p : BitVec 2) : Statement (.fdX3Z5Q0p p) :=
  ofLength 2 rfl (by decide) (by decide)
theorem fdX3Z5Q1p (p : BitVec 2) : Statement (.fdX3Z5Q1p p) :=
  ofLength 2 rfl (by decide) (by decide)
theorem fdX3Z6 (y : BitVec 3) (n : Byte) : Statement (.fdX3Z6 y n) :=
  ofLength 3 rfl (by decide) (by decide)
theorem fdX3Z7 (y : BitVec 3) : Statement (.fdX3Z7 y) :=
  ofLength 2 rfl (by decide) (by decide)
theorem fdIdxX0Z4 (d : Byte) : Statement (.fdIdxX0Z4 d) :=
  ofLength 3 rfl (by decide) (by decide)
theorem fdIdxX0Z5 (d : Byte) : Statement (.fdIdxX0Z5 d) :=
  ofLength 3 rfl (by decide) (by decide)
theorem fdIdxX0Z6 (d n : Byte) : Statement (.fdIdxX0Z6 d n) :=
  ofLength 4 rfl (by decide) (by decide)
theorem fdIdxX1Z6 (y : BitVec 3) (d : Byte) : Statement (.fdIdxX1Z6 y d) :=
  ofLength 3 rfl (by decide) (by decide)
theorem fdIdxX1Y6 (z : BitVec 3) (d : Byte) : Statement (.fdIdxX1Y6 z d) :=
  ofLength 3 rfl (by decide) (by decide)
theorem fdX1Y6Z6 : Statement (.fdX1Y6Z6) :=
  ofLength 2 rfl (by decide) (by decide)
theorem fdIdxX2Z6 (y : BitVec 3) (d : Byte) : Statement (.fdIdxX2Z6 y d) :=
  ofLength 3 rfl (by decide) (by decide)
theorem cbAny (op : Byte) : Statement (.cbAny op) :=
  ofLength 2 rfl (by decide) (by decide)
theorem edAny (op : Byte) : Statement (.edAny op) :=
  ofLength 2 rfl (by decide) (by decide)
theorem ddcbAny (d op : Byte) : Statement (.ddcbAny d op) :=
  ofLength 4 rfl (by decide) (by decide)
theorem fdcbAny (d op : Byte) : Statement (.fdcbAny d op) :=
  ofLength 4 rfl (by decide) (by decide)

end Sys2Proof.Laws.EncodeLength
end

