-- ==== Sys2Proof/Tests/Slice0.lean ====
section
/-! SUPPORT. The model's own tests.  Expected results are the vectors of spec/95_test_vectors.md (named
S1 to S8, V1 to V12, P1 to P6 there) or are worked out by hand from the rules of
spec/42_operand_length.md; the last part shows for every statement with hypotheses that they can be
met together. -/

namespace Sys2Proof.Tests

open Sys2Proof Sys2Proof.Machine

/-! ### Helpers -/

/-- The state after reset whose caller holds the bytes. -/
def demo (bytes : List Byte) : State := State.reset.load bytes

/-- One vector: stream bytes, the instruction they are, the record expected. -/
structure Vec where
  bytes : List Byte
  instr : Instr
  record : Record

/-- One step from `demo`: its result and the offset after it. -/
def stepOf (bytes : List Byte) : Option (DecodeResult × Nat) :=
  match step (demo bytes) with
  | .next t => some (t.result, t.off)
  | .fault _ => none
  | .refused _ => none

/-- The bytes decode to the instruction and are its encoding, and one step delivers the record, though
a further byte follows. -/
def Vec.passes (v : Vec) : Bool :=
  decode v.bytes == .ok v.instr [] && encode v.instr == v.bytes &&
  stepOf (v.bytes ++ [0x99]) == some (.ok v.record, v.record.length)

/-- DECODE by the rules' pseudocode gives the record too. -/
def Vec.passesBlock (v : Vec) : Bool := decodeBlock (v.bytes ++ [0x99]) == .ok v.record

/-! ### Every constructor: decoding, encoding, one step -/

/-- Format N, x = 0 (V4). -/
def vecsN1 : List Vec :=
  [ ⟨[0x18], .nX0Z0Lo 3,
      ⟨.none, ⟨0x18, 0, 3, 0, 1, 1⟩, none, none, 1⟩⟩,
    ⟨[0x28, 0xFE], .nX0Z0Rel 5 0xFE,
      ⟨.none, ⟨0x28, 0, 5, 0, 2, 1⟩, some (-2), none, 2⟩⟩,
    ⟨[0x31, 0xFE, 0xFF], .nX0Z1Q0 3 0xFFFE,
      ⟨.none, ⟨0x31, 0, 6, 1, 3, 0⟩, none, some (.word 0xFFFE), 3⟩⟩,
    ⟨[0x19], .nX0Z1Q1 1,
      ⟨.none, ⟨0x19, 0, 3, 1, 1, 1⟩, none, none, 1⟩⟩,
    ⟨[0x1A], .nX0Z2Plo 3,
      ⟨.none, ⟨0x1A, 0, 3, 2, 1, 1⟩, none, none, 1⟩⟩,
    ⟨[0x2A, 0xCD, 0xAB], .nX0Z2Phi 5 0xABCD,
      ⟨.none, ⟨0x2A, 0, 5, 2, 2, 1⟩, none, some (.word 0xABCD), 3⟩⟩,
    ⟨[0x3B], .nX0Z3 7,
      ⟨.none, ⟨0x3B, 0, 7, 3, 3, 1⟩, none, none, 1⟩⟩,
    ⟨[0x34], .nX0Z4 6,
      ⟨.none, ⟨0x34, 0, 6, 4, 3, 0⟩, none, none, 1⟩⟩,
    ⟨[0x35], .nX0Z5 6,
      ⟨.none, ⟨0x35, 0, 6, 5, 3, 0⟩, none, none, 1⟩⟩,
    ⟨[0x36, 0x7F], .nX0Z6 6 0x7F,
      ⟨.none, ⟨0x36, 0, 6, 6, 3, 0⟩, none, some (.byte 0x7F), 2⟩⟩,
    ⟨[0x3F], .nX0Z7 7,
      ⟨.none, ⟨0x3F, 0, 7, 7, 3, 1⟩, none, none, 1⟩⟩ ]

/-- Format N, x = 1, 2, 3 (V5, V6). -/
def vecsN2 : List Vec :=
  [ ⟨[0x7E], .nX1 7 6,
      ⟨.none, ⟨0x7E, 1, 7, 6, 3, 1⟩, none, none, 1⟩⟩,
    ⟨[0x86], .nX2 0 6,
      ⟨.none, ⟨0x86, 2, 0, 6, 0, 0⟩, none, none, 1⟩⟩,
    ⟨[0xF8], .nX3Z0 7,
      ⟨.none, ⟨0xF8, 3, 7, 0, 3, 1⟩, none, none, 1⟩⟩,
    ⟨[0xC9], .nX3Z1 1,
      ⟨.none, ⟨0xC9, 3, 1, 1, 0, 1⟩, none, none, 1⟩⟩,
    ⟨[0xC2, 0x34, 0x12], .nX3Z2 0 0x1234,
      ⟨.none, ⟨0xC2, 3, 0, 2, 0, 0⟩, none, some (.word 0x1234), 3⟩⟩,
    ⟨[0xC3, 0x00, 0x80], .nX3Z3Y0 0x8000,
      ⟨.none, ⟨0xC3, 3, 0, 3, 0, 0⟩, none, some (.word 0x8000), 3⟩⟩,
    ⟨[0xDB, 0x01], .nX3Z3Y23 3 0x01,
      ⟨.none, ⟨0xDB, 3, 3, 3, 1, 1⟩, none, some (.byte 0x1), 2⟩⟩,
    ⟨[0xE3], .nX3Z3Yhi 4,
      ⟨.none, ⟨0xE3, 3, 4, 3, 2, 0⟩, none, none, 1⟩⟩,
    ⟨[0xCC], .nX3Z4 1,
      ⟨.none, ⟨0xCC, 3, 1, 4, 0, 1⟩, none, none, 1⟩⟩,
    ⟨[0xCD, 0x00, 0x80], .nX3Z5P0 1 0x8000,
      ⟨.none, ⟨0xCD, 3, 1, 5, 0, 1⟩, none, some (.word 0x8000), 3⟩⟩,
    ⟨[0xE5], .nX3Z5Q0p 2,
      ⟨.none, ⟨0xE5, 3, 4, 5, 2, 0⟩, none, none, 1⟩⟩,
    ⟨[0xFE, 0x0D], .nX3Z6 7 0x0D,
      ⟨.none, ⟨0xFE, 3, 7, 6, 3, 1⟩, none, some (.byte 0xD), 2⟩⟩,
    ⟨[0xC7], .nX3Z7 0,
      ⟨.none, ⟨0xC7, 3, 0, 7, 0, 0⟩, none, none, 1⟩⟩ ]

/-- Format XY under DD, x = 0 (V4). -/
def vecsDD1 : List Vec :=
  [ ⟨[0xDD, 0x08], .ddX0Z0Lo 1,
      ⟨.dd, ⟨0x08, 0, 1, 0, 0, 1⟩, none, none, 2⟩⟩,
    ⟨[0xDD, 0x20, 0x05], .ddX0Z0Rel 4 0x05,
      ⟨.dd, ⟨0x20, 0, 4, 0, 2, 0⟩, some (5), none, 3⟩⟩,
    ⟨[0xDD, 0x21, 0x34, 0x12], .ddX0Z1Q0 2 0x1234,
      ⟨.dd, ⟨0x21, 0, 4, 1, 2, 0⟩, none, some (.word 0x1234), 4⟩⟩,
    ⟨[0xDD, 0x09], .ddX0Z1Q1 0,
      ⟨.dd, ⟨0x09, 0, 1, 1, 0, 1⟩, none, none, 2⟩⟩,
    ⟨[0xDD, 0x02], .ddX0Z2Plo 0,
      ⟨.dd, ⟨0x02, 0, 0, 2, 0, 0⟩, none, none, 2⟩⟩,
    ⟨[0xDD, 0x2A, 0x00, 0x40], .ddX0Z2Phi 5 0x4000,
      ⟨.dd, ⟨0x2A, 0, 5, 2, 2, 1⟩, none, some (.word 0x4000), 4⟩⟩,
    ⟨[0xDD, 0x23], .ddX0Z3 4,
      ⟨.dd, ⟨0x23, 0, 4, 3, 2, 0⟩, none, none, 2⟩⟩,
    ⟨[0xDD, 0x24], .ddX0Z4 4,
      ⟨.dd, ⟨0x24, 0, 4, 4, 2, 0⟩, none, none, 2⟩⟩,
    ⟨[0xDD, 0x3D], .ddX0Z5 7,
      ⟨.dd, ⟨0x3D, 0, 7, 5, 3, 1⟩, none, none, 2⟩⟩,
    ⟨[0xDD, 0x2E, 0x80], .ddX0Z6 5 0x80,
      ⟨.dd, ⟨0x2E, 0, 5, 6, 2, 1⟩, none, some (.byte 0x80), 3⟩⟩,
    ⟨[0xDD, 0x07], .ddX0Z7 0,
      ⟨.dd, ⟨0x07, 0, 0, 7, 0, 0⟩, none, none, 2⟩⟩ ]

/-- Format XY under DD, x = 1, 2, 3 (V5, V6). -/
def vecsDD2 : List Vec :=
  [ ⟨[0xDD, 0x64], .ddX1 4 4,
      ⟨.dd, ⟨0x64, 1, 4, 4, 2, 0⟩, none, none, 2⟩⟩,
    ⟨[0xDD, 0x87], .ddX2 0 7,
      ⟨.dd, ⟨0x87, 2, 0, 7, 0, 0⟩, none, none, 2⟩⟩,
    ⟨[0xDD, 0xC0], .ddX3Z0 0,
      ⟨.dd, ⟨0xC0, 3, 0, 0, 0, 0⟩, none, none, 2⟩⟩,
    ⟨[0xDD, 0xE9], .ddX3Z1 5,
      ⟨.dd, ⟨0xE9, 3, 5, 1, 2, 1⟩, none, none, 2⟩⟩,
    ⟨[0xDD, 0xFA, 0xFF, 0xFF], .ddX3Z2 7 0xFFFF,
      ⟨.dd, ⟨0xFA, 3, 7, 2, 3, 1⟩, none, some (.word 0xFFFF), 4⟩⟩,
    ⟨[0xDD, 0xC3, 0x00, 0x80], .ddX3Z3Y0 0x8000,
      ⟨.dd, ⟨0xC3, 3, 0, 3, 0, 0⟩, none, some (.word 0x8000), 4⟩⟩,
    ⟨[0xDD, 0xD3, 0x10], .ddX3Z3Y23 2 0x10,
      ⟨.dd, ⟨0xD3, 3, 2, 3, 1, 0⟩, none, some (.byte 0x10), 3⟩⟩,
    ⟨[0xDD, 0xFB], .ddX3Z3Yhi 7,
      ⟨.dd, ⟨0xFB, 3, 7, 3, 3, 1⟩, none, none, 2⟩⟩,
    ⟨[0xDD, 0xC4], .ddX3Z4 0,
      ⟨.dd, ⟨0xC4, 3, 0, 4, 0, 0⟩, none, none, 2⟩⟩,
    ⟨[0xDD, 0xC5, 0x01, 0x02], .ddX3Z5P0 0 0x0201,
      ⟨.dd, ⟨0xC5, 3, 0, 5, 0, 0⟩, none, some (.word 0x201), 4⟩⟩,
    ⟨[0xDD, 0xD5], .ddX3Z5Q0p 1,
      ⟨.dd, ⟨0xD5, 3, 2, 5, 1, 0⟩, none, none, 2⟩⟩,
    ⟨[0xDD, 0xED], .ddX3Z5Q1p 2,
      ⟨.dd, ⟨0xED, 3, 5, 5, 2, 1⟩, none, none, 2⟩⟩,
    ⟨[0xDD, 0xC6, 0x05], .ddX3Z6 0 0x05,
      ⟨.dd, ⟨0xC6, 3, 0, 6, 0, 0⟩, none, some (.byte 0x5), 3⟩⟩,
    ⟨[0xDD, 0xFF], .ddX3Z7 7,
      ⟨.dd, ⟨0xFF, 3, 7, 7, 3, 1⟩, none, none, 2⟩⟩ ]

/-- The indexed forms under DD (V7). -/
def vecsDD3 : List Vec :=
  [ ⟨[0xDD, 0x34, 0x00], .ddIdxX0Z4 0x00,
      ⟨.dd, ⟨0x34, 0, 6, 4, 3, 0⟩, some 0, none, 3⟩⟩,
    ⟨[0xDD, 0x35, 0xFF], .ddIdxX0Z5 0xFF,
      ⟨.dd, ⟨0x35, 0, 6, 5, 3, 0⟩, some (-1), none, 3⟩⟩,
    ⟨[0xDD, 0x36, 0x80, 0xFF], .ddIdxX0Z6 0x80 0xFF,
      ⟨.dd, ⟨0x36, 0, 6, 6, 3, 0⟩, some (-128), some (.byte 0xFF), 4⟩⟩,
    ⟨[0xDD, 0x7E, 0x02], .ddIdxX1Z6 7 0x02,
      ⟨.dd, ⟨0x7E, 1, 7, 6, 3, 1⟩, some (2), none, 3⟩⟩,
    ⟨[0xDD, 0x75, 0xF5], .ddIdxX1Y6 5 0xF5,
      ⟨.dd, ⟨0x75, 1, 6, 5, 3, 0⟩, some (-11), none, 3⟩⟩,
    ⟨[0xDD, 0x76], .ddX1Y6Z6,
      ⟨.dd, ⟨0x76, 1, 6, 6, 3, 0⟩, none, none, 2⟩⟩,
    ⟨[0xDD, 0x8E, 0x7F], .ddIdxX2Z6 1 0x7F,
      ⟨.dd, ⟨0x8E, 2, 1, 6, 0, 1⟩, some (127), none, 3⟩⟩ ]

/-- Format XY under FD, x = 0 (V4). -/
def vecsFD1 : List Vec :=
  [ ⟨[0xFD, 0x08], .fdX0Z0Lo 1,
      ⟨.fd, ⟨0x08, 0, 1, 0, 0, 1⟩, none, none, 2⟩⟩,
    ⟨[0xFD, 0x20, 0x05], .fdX0Z0Rel 4 0x05,
      ⟨.fd, ⟨0x20, 0, 4, 0, 2, 0⟩, some (5), none, 3⟩⟩,
    ⟨[0xFD, 0x21, 0x34, 0x12], .fdX0Z1Q0 2 0x1234,
      ⟨.fd, ⟨0x21, 0, 4, 1, 2, 0⟩, none, some (.word 0x1234), 4⟩⟩,
    ⟨[0xFD, 0x09], .fdX0Z1Q1 0,
      ⟨.fd, ⟨0x09, 0, 1, 1, 0, 1⟩, none, none, 2⟩⟩,
    ⟨[0xFD, 0x02], .fdX0Z2Plo 0,
      ⟨.fd, ⟨0x02, 0, 0, 2, 0, 0⟩, none, none, 2⟩⟩,
    ⟨[0xFD, 0x2A, 0x00, 0x40], .fdX0Z2Phi 5 0x4000,
      ⟨.fd, ⟨0x2A, 0, 5, 2, 2, 1⟩, none, some (.word 0x4000), 4⟩⟩,
    ⟨[0xFD, 0x23], .fdX0Z3 4,
      ⟨.fd, ⟨0x23, 0, 4, 3, 2, 0⟩, none, none, 2⟩⟩,
    ⟨[0xFD, 0x24], .fdX0Z4 4,
      ⟨.fd, ⟨0x24, 0, 4, 4, 2, 0⟩, none, none, 2⟩⟩,
    ⟨[0xFD, 0x3D], .fdX0Z5 7,
      ⟨.fd, ⟨0x3D, 0, 7, 5, 3, 1⟩, none, none, 2⟩⟩,
    ⟨[0xFD, 0x2E, 0x80], .fdX0Z6 5 0x80,
      ⟨.fd, ⟨0x2E, 0, 5, 6, 2, 1⟩, none, some (.byte 0x80), 3⟩⟩,
    ⟨[0xFD, 0x07], .fdX0Z7 0,
      ⟨.fd, ⟨0x07, 0, 0, 7, 0, 0⟩, none, none, 2⟩⟩ ]

/-- Format XY under FD, x = 1, 2, 3 (V5, V6). -/
def vecsFD2 : List Vec :=
  [ ⟨[0xFD, 0x64], .fdX1 4 4,
      ⟨.fd, ⟨0x64, 1, 4, 4, 2, 0⟩, none, none, 2⟩⟩,
    ⟨[0xFD, 0x87], .fdX2 0 7,
      ⟨.fd, ⟨0x87, 2, 0, 7, 0, 0⟩, none, none, 2⟩⟩,
    ⟨[0xFD, 0xC0], .fdX3Z0 0,
      ⟨.fd, ⟨0xC0, 3, 0, 0, 0, 0⟩, none, none, 2⟩⟩,
    ⟨[0xFD, 0xE9], .fdX3Z1 5,
      ⟨.fd, ⟨0xE9, 3, 5, 1, 2, 1⟩, none, none, 2⟩⟩,
    ⟨[0xFD, 0xFA, 0xFF, 0xFF], .fdX3Z2 7 0xFFFF,
      ⟨.fd, ⟨0xFA, 3, 7, 2, 3, 1⟩, none, some (.word 0xFFFF), 4⟩⟩,
    ⟨[0xFD, 0xC3, 0x00, 0x80], .fdX3Z3Y0 0x8000,
      ⟨.fd, ⟨0xC3, 3, 0, 3, 0, 0⟩, none, some (.word 0x8000), 4⟩⟩,
    ⟨[0xFD, 0xD3, 0x10], .fdX3Z3Y23 2 0x10,
      ⟨.fd, ⟨0xD3, 3, 2, 3, 1, 0⟩, none, some (.byte 0x10), 3⟩⟩,
    ⟨[0xFD, 0xFB], .fdX3Z3Yhi 7,
      ⟨.fd, ⟨0xFB, 3, 7, 3, 3, 1⟩, none, none, 2⟩⟩,
    ⟨[0xFD, 0xC4], .fdX3Z4 0,
      ⟨.fd, ⟨0xC4, 3, 0, 4, 0, 0⟩, none, none, 2⟩⟩,
    ⟨[0xFD, 0xC5, 0x01, 0x02], .fdX3Z5P0 0 0x0201,
      ⟨.fd, ⟨0xC5, 3, 0, 5, 0, 0⟩, none, some (.word 0x201), 4⟩⟩,
    ⟨[0xFD, 0xD5], .fdX3Z5Q0p 1,
      ⟨.fd, ⟨0xD5, 3, 2, 5, 1, 0⟩, none, none, 2⟩⟩,
    ⟨[0xFD, 0xED], .fdX3Z5Q1p 2,
      ⟨.fd, ⟨0xED, 3, 5, 5, 2, 1⟩, none, none, 2⟩⟩,
    ⟨[0xFD, 0xC6, 0x05], .fdX3Z6 0 0x05,
      ⟨.fd, ⟨0xC6, 3, 0, 6, 0, 0⟩, none, some (.byte 0x5), 3⟩⟩,
    ⟨[0xFD, 0xFF], .fdX3Z7 7,
      ⟨.fd, ⟨0xFF, 3, 7, 7, 3, 1⟩, none, none, 2⟩⟩ ]

/-- The indexed forms under FD (V7). -/
def vecsFD3 : List Vec :=
  [ ⟨[0xFD, 0x34, 0x00], .fdIdxX0Z4 0x00,
      ⟨.fd, ⟨0x34, 0, 6, 4, 3, 0⟩, some 0, none, 3⟩⟩,
    ⟨[0xFD, 0x35, 0xFF], .fdIdxX0Z5 0xFF,
      ⟨.fd, ⟨0x35, 0, 6, 5, 3, 0⟩, some (-1), none, 3⟩⟩,
    ⟨[0xFD, 0x36, 0x80, 0xFF], .fdIdxX0Z6 0x80 0xFF,
      ⟨.fd, ⟨0x36, 0, 6, 6, 3, 0⟩, some (-128), some (.byte 0xFF), 4⟩⟩,
    ⟨[0xFD, 0x7E, 0x02], .fdIdxX1Z6 7 0x02,
      ⟨.fd, ⟨0x7E, 1, 7, 6, 3, 1⟩, some (2), none, 3⟩⟩,
    ⟨[0xFD, 0x75, 0xF5], .fdIdxX1Y6 5 0xF5,
      ⟨.fd, ⟨0x75, 1, 6, 5, 3, 0⟩, some (-11), none, 3⟩⟩,
    ⟨[0xFD, 0x76], .fdX1Y6Z6,
      ⟨.fd, ⟨0x76, 1, 6, 6, 3, 0⟩, none, none, 2⟩⟩,
    ⟨[0xFD, 0x8E, 0x7F], .fdIdxX2Z6 1 0x7F,
      ⟨.fd, ⟨0x8E, 2, 1, 6, 0, 1⟩, some (127), none, 3⟩⟩ ]

/-- The kinds with one class (V8). -/
def vecsOther : List Vec :=
  [ ⟨[0xCB, 0x06], .cbAny 0x06, ⟨.cb, ⟨0x06, 0, 0, 6, 0, 0⟩, none, none, 2⟩⟩,
    ⟨[0xED, 0x43], .edAny 0x43, ⟨.ed, ⟨0x43, 1, 0, 3, 0, 0⟩, none, none, 2⟩⟩,
    ⟨[0xDD, 0xCB, 0x80, 0xCB], .ddcbAny 0x80 0xCB, ⟨.ddcb, ⟨0xCB, 3, 1, 3, 0, 1⟩, some (-128), none, 4⟩⟩,
    ⟨[0xFD, 0xCB, 0xFB, 0x9E], .fdcbAny 0xFB 0x9E, ⟨.fdcb, ⟨0x9E, 2, 3, 6, 1, 1⟩, some (-5), none, 4⟩⟩ ]

theorem test_format_n_x0 : ∀ v ∈ vecsN1, v.passes = true := by decide +kernel
theorem test_format_n_x123 : ∀ v ∈ vecsN2, v.passes = true := by decide +kernel
theorem test_format_dd_x0 : ∀ v ∈ vecsDD1, v.passes = true := by decide +kernel
theorem test_format_dd_x123 : ∀ v ∈ vecsDD2, v.passes = true := by decide +kernel
theorem test_format_dd_indexed : ∀ v ∈ vecsDD3, v.passes = true := by decide +kernel
theorem test_format_fd_x0 : ∀ v ∈ vecsFD1, v.passes = true := by decide +kernel
theorem test_format_fd_x123 : ∀ v ∈ vecsFD2, v.passes = true := by decide +kernel
theorem test_format_fd_indexed : ∀ v ∈ vecsFD3, v.passes = true := by decide +kernel
theorem test_other_kinds : ∀ v ∈ vecsOther, v.passes = true := by decide +kernel
theorem test_block_n : ∀ v ∈ vecsN1 ++ vecsN2 ++ vecsOther, v.passesBlock = true := by decide +kernel
theorem test_block_xy :
    ∀ v ∈ vecsDD1 ++ vecsDD2 ++ vecsDD3 ++ vecsFD1 ++ vecsFD2 ++ vecsFD3, v.passesBlock = true := by
  decide +kernel

/-! ### WellFormed refuses what a class does not select -/

/-- Format N: one ill-formed term for each condition, on the boundary. -/
theorem test_wf_refuses_n :
    [Instr.nX0Z0Lo 4, .nX0Z0Rel 3 0, .nX0Z2Plo 4, .nX0Z2Phi 3 0, .nX3Z3Y23 1 0, .nX3Z3Y23 4 0, .nX3Z3Yhi 3,
      .nX3Z5Q0p 0].all (fun i => !i.wf) = true := by decide

/-- Format XY under DD. -/
theorem test_wf_refuses_dd :
    [Instr.ddX0Z0Lo 4, .ddX0Z0Rel 3 0, .ddX0Z2Plo 4, .ddX0Z2Phi 3 0, .ddX0Z4 6, .ddX0Z5 6, .ddX0Z6 6 0,
      .ddX1 6 0, .ddX1 0 6, .ddX2 0 6, .ddX3Z3Y23 1 0, .ddX3Z3Y23 4 0, .ddX3Z3Yhi 3, .ddX3Z5Q0p 0,
      .ddX3Z5Q1p 0, .ddIdxX1Z6 6 0, .ddIdxX1Y6 6 0].all (fun i => !i.wf) = true := by decide

/-- Format XY under FD. -/
theorem test_wf_refuses_fd :
    [Instr.fdX0Z0Lo 4, .fdX0Z0Rel 3 0, .fdX0Z2Plo 4, .fdX0Z2Phi 3 0, .fdX0Z4 6, .fdX0Z5 6, .fdX0Z6 6 0,
      .fdX1 6 0, .fdX1 0 6, .fdX2 0 6, .fdX3Z3Y23 1 0, .fdX3Z3Y23 4 0, .fdX3Z3Yhi 3, .fdX3Z5Q0p 0,
      .fdX3Z5Q1p 0, .fdIdxX1Z6 6 0, .fdIdxX1Y6 6 0].all (fun i => !i.wf) = true := by decide

/-! ### Extraction, classification, dispatch -/

/-- V1. -/
theorem test_extract_bits :
    extractBits 0x46 3 5 (by decide) = 0 ∧ extractBits 0x46 0 2 (by decide) = 6 ∧
    extractBits 0x46 6 7 (by decide) = 1 ∧ extractBits 0xFF 3 3 (by decide) = 1 ∧
    extractBits 0xA5 0 7 (by decide) = 0xA5 ∧ extractBits 0x08 4 5 (by decide) = 0 ∧
    extractBits 0x80 7 7 (by decide) = 1 ∧ extractBits 0x80 0 6 (by decide) = 0 ∧
    extractBits 0x7F 0 6 (by decide) = 0x7F := by decide

/-- V2. -/
theorem test_classify :
    classify 0x55 = ⟨0x55, 1, 2, 5, 1, 0⟩ ∧ classify 0xAA = ⟨0xAA, 2, 5, 2, 2, 1⟩ ∧
    classify 0x08 = ⟨0x08, 0, 1, 0, 0, 1⟩ ∧ classify 0x30 = ⟨0x30, 0, 6, 0, 3, 0⟩ ∧
    classify 0xC0 = ⟨0xC0, 3, 0, 0, 0, 0⟩ ∧ classify 0x07 = ⟨0x07, 0, 0, 7, 0, 0⟩ := by decide

/-- V3: prefix values as base opcodes, and displacement 0xCB. -/
theorem test_no_prefix_chain :
    stepOf [0xDD, 0xFD] = some (.ok ⟨.dd, ⟨0xFD, 3, 7, 5, 3, 1⟩, none, none, 2⟩, 2) ∧
    stepOf [0xED, 0xCB] = some (.ok ⟨.ed, ⟨0xCB, 3, 1, 3, 0, 1⟩, none, none, 2⟩, 2) ∧
    stepOf [0xCB, 0xCB] = some (.ok ⟨.cb, ⟨0xCB, 3, 1, 3, 0, 1⟩, none, none, 2⟩, 2) ∧
    stepOf [0xDD, 0xCB, 0xCB, 0xCB] = some (.ok ⟨.ddcb, ⟨0xCB, 3, 1, 3, 0, 1⟩, some (-53), none, 4⟩, 4) := by
  decide +kernel

/-- S3 to S6. -/
theorem test_source_examples :
    stepOf [0x3E, 0x42] = some (.ok ⟨.none, ⟨0x3E, 0, 7, 6, 3, 1⟩, none, some (.byte 0x42), 2⟩, 2) ∧
    stepOf [0x21, 0x34, 0x12] = some (.ok ⟨.none, ⟨0x21, 0, 4, 1, 2, 0⟩, none, some (.word 0x1234), 3⟩, 3) ∧
    stepOf [0xCD, 0x00, 0x80] = some (.ok ⟨.none, ⟨0xCD, 3, 1, 5, 0, 1⟩, none, some (.word 0x8000), 3⟩, 3) ∧
    stepOf [0xDD, 0xCB, 0x05, 0x46] = some (.ok ⟨.ddcb, ⟨0x46, 1, 0, 6, 0, 0⟩, some 5, none, 4⟩, 4) := by
  decide +kernel

/-- S7 and V9: every truncated input is reported and the offset stays. -/
theorem test_truncated :
    ∀ bytes ∈ ([[], [0xCB], [0xED], [0xDD], [0xFD], [0xDD, 0xCB], [0xDD, 0xCB, 0x05], [0xFD, 0xCB],
      [0xFD, 0xCB, 0x00], [0x20], [0x3E], [0xD3], [0x21], [0xC3], [0xC5], [0x21, 0x34], [0xCD, 0x00],
      [0xDD, 0x21], [0xDD, 0x21, 0x34], [0xDD, 0xC3, 0x00], [0xDD, 0x20], [0xDD, 0x3E], [0xDD, 0x34],
      [0xDD, 0x7E], [0xFD, 0x36], [0xFD, 0x36, 0x05]] : List (List Byte)),
      stepOf bytes = some (.err .truncated, 0) ∧ decodeBlock bytes = .err .truncated := by decide +kernel

/-- V10: the longer input gives its record, whatever came before. -/
theorem test_extension :
    decodeBlock [0xFD, 0x36, 0x05, 0x42] = .ok ⟨.fd, ⟨0x36, 0, 6, 6, 3, 0⟩, some 5, some (.byte 0x42), 4⟩ ∧
    decodeBlock [0xFD, 0x36, 0x05, 0x42, 0x00] = decodeBlock [0xFD, 0x36, 0x05, 0x42] := by decide

/-- V11: the ports, stale bytes and `avail` above 4 included. -/
theorem test_ports :
    evalPorts ⟨0x3E, 0x42, 0, 0⟩ 4 = ⟨0, 0, 0x3E, 0, 7, 6, 3, 1, 0, 0, 1, 0x42, 2⟩ ∧
    evalPorts ⟨0x3E, 0x42, 0, 0⟩ 1 = ⟨1, 0, 0, 0, 0, 0, 0, 0, 0, 0, 0, 0, 0⟩ ∧
    evalPorts ⟨0x21, 0x34, 0x12, 0xFF⟩ 3 = ⟨0, 0, 0x21, 0, 4, 1, 2, 0, 0, 0, 2, 0x1234, 3⟩ ∧
    evalPorts ⟨0xDD, 0xCB, 0x05, 0x46⟩ 7 = ⟨0, 5, 0x46, 1, 0, 6, 0, 0, 1, 0x05, 0, 0, 4⟩ ∧
    evalPorts ⟨0xFD, 0x36, 0x80, 0xFF⟩ 4 = ⟨0, 4, 0x36, 0, 6, 6, 3, 0, 1, 0x80, 1, 0x00FF, 4⟩ ∧
    evalPorts ⟨0x20, 0x00, 0xAA, 0xBB⟩ 2 = ⟨0, 0, 0x20, 0, 4, 0, 2, 0, 1, 0x00, 0, 0, 2⟩ ∧
    evalPorts ⟨0xCB, 0x46, 0x12, 0x34⟩ 5 = ⟨0, 1, 0x46, 1, 0, 6, 0, 0, 0, 0, 0, 0, 2⟩ := by decide

/-! ### The caller's walk (P1 to P6): the lengths and the end -/

/-- The lengths of a walk's records, and how it ends. -/
def walkShape (bytes : List Byte) : List Nat × WalkEnd :=
  ((walk bytes 0).1.map Record.length, (walk bytes 0).2)

/-- P1. -/
theorem test_walk_plain :
    walkShape [0x3E, 0x42, 0x21, 0x34, 0x12, 0xCD, 0x00, 0x80, 0xDD, 0xCB, 0x05, 0x46, 0xC9] =
      ([2, 3, 3, 4, 1], .clean 13) := by decide

/-- P2. -/
theorem test_walk_indexed :
    walkShape [0xDD, 0x21, 0x00, 0x40, 0xDD, 0x36, 0x05, 0x42, 0xFD, 0x7E, 0xFE, 0xDD, 0x34, 0x00, 0xFD, 0xCB,
      0x02, 0xC6, 0x76] = ([4, 4, 3, 3, 4, 1], .clean 19) := by decide

/-- P3. -/
theorem test_walk_cut_short :
    walkShape [0x06, 0x10, 0x21, 0x00, 0xC0, 0x28, 0xFE, 0xDD, 0x36, 0x05] = ([2, 3, 2], .truncated 7) := by
  decide

/-- P4: the block's own boundaries, not the Z80's. -/
theorem test_walk_own_boundaries :
    walkShape [0x18, 0x05, 0xC4, 0x00, 0x80, 0xED, 0x43, 0x00, 0x80, 0xC5, 0xDD, 0xFD, 0x21, 0x34, 0x12] =
      ([1, 1, 1, 1, 1, 2, 1, 1, 3, 3], .clean 15) := by decide

/-- P5: a walk begun inside an instruction. -/
theorem test_walk_inside :
    walkShape [0x42, 0x21, 0x34, 0x12, 0xCD, 0x00, 0x80, 0xDD, 0xCB, 0x05, 0x46, 0xC9] =
      ([1, 3, 3, 4, 1], .clean 12) := by decide

/-- P6: a lone prefix at the end. -/
theorem test_walk_lone_prefix :
    walkShape [0xDD, 0xFD, 0x7E, 0x05, 0xC9, 0xDD] = ([2, 1, 1, 1], .truncated 5) := by decide

/-! ### Reset, words of the table -/

/-- R33: with `avail` = 0 the block reports TRUNCATED, and a step says so and moves nothing. -/
theorem test_reset : State.reset.outputs.status = 1 ∧ stepOf [] = some (.err .truncated, 0) := by decide

/-- A row's word with the first byte most significant, as the table's own "fixed" entries count. -/
theorem test_table_word_high_first :
    decodeTableWord 8 0x18 = some (.nX0Z0Lo 3) ∧ decodeTableWord 16 0xDD08 = some (.ddX0Z0Lo 1) ∧
    decodeTableWord 32 0xFDCB059E = some (.fdcbAny 0x05 0x9E) := by decide

/-- The same rows with the first byte least significant. -/
theorem test_table_word_low_first :
    decodeTableWord 16 0x08DD = some (.ddX0Z0Lo 1) ∧ decodeTableWord 24 0x1234C2 = some (.nX3Z2 0 0x1234) ∧
    decodeTableWord 32 0x9E05CBFD = some (.fdcbAny 0x05 0x9E) := by decide

/-- A placed word runs as the first step after reset. -/
theorem test_with_fetch_word :
    (match step (State.reset.withFetchWord 16 0xDD08) with
      | .next t => decide (t.result = .ok ⟨.dd, ⟨0x08, 0, 1, 0, 0, 1⟩, none, none, 2⟩) && t.off == 2
      | .fault _ => false
      | .refused _ => false) = true := by decide

/-! ### The hypotheses of the statements can be met -/

/-- Any loaded stream meets the invariant. -/
theorem demo_inv (bytes : List Byte) : MachineInv (demo bytes) := present_inv (Memory.ofBytes_wf bytes) trivial

theorem witness_ExtractBitsReadsTheRange :
    (0 ≤ 0 ∧ 0 ≤ 7) ∧ (0 ≤ 7 ∧ 7 ≤ 7) ∧ (7 ≤ 7 ∧ 7 ≤ 7) ∧ (3 ≤ 5 ∧ 5 ≤ 7) := by decide

theorem witness_ClassifyRebuildsTheByte :
    (classify 0x46).x = (classify 0x46).x ∧ (classify 0x46).y = (classify 0x46).y ∧
    (classify 0x46).z = (classify 0x46).z := by decide

/-- 0xCA, 0xCC and 0xFC stand next to prefix bytes. -/
theorem witness_PrefixKindsAreDispatched :
    Config.isPrefixByte 0xCA = false ∧ Config.isPrefixByte 0xCC = false ∧ Config.isPrefixByte 0xFC = false ∧
    (0xCA : Byte) ≠ 0xCB ∧ (0xDD : Byte) ≠ 0xCB := by decide

/-- The clause about records. -/
theorem witness_ClassX3Z5Q1PUnderDdAndFd :
    decodeBlock [0xDD, 0x09] = .ok ⟨.dd, classify 0x09, none, none, 2⟩ ∧
    decodeBlock [0xED, 0x00] = .ok ⟨.ed, classify 0x00, none, none, 2⟩ ∧
    decodeBlock [0xFD, 0x09] = .ok ⟨.fd, classify 0x09, none, none, 2⟩ := by decide

theorem witness_ClassX3Z3Y1IsNeverConsulted :
    decodeBlock [0xCA, 0, 0] = .ok ⟨.none, classify 0xCA, none, some (.word 0), 3⟩ ∧
    decodeBlock [0xDD, 0x09] = .ok ⟨.dd, classify 0x09, none, none, 2⟩ ∧
    decodeBlock [0xFD, 0x09] = .ok ⟨.fd, classify 0x09, none, none, 2⟩ := by decide

theorem witness_ClassesBesideTheIndexedForms :
    (0 < 8 ∧ 0 < 8 ∧ (0 : Nat) ≠ 6) ∧ (7 < 8 ∧ 7 < 8 ∧ (7 : Nat) ≠ 6) ∧ (5 < 8 ∧ (5 : Nat) ≠ 6) := by decide

theorem witness_IndexedFormsTakeADisplacement :
    (idx (classify 0x34) = true ∧ (0x34 : Byte) ≠ 0x36) ∧ (idx (classify 0xBE) = true ∧ (0xBE : Byte) ≠ 0x36) ∧
    idx (classify 0x76) = false := by decide

theorem witness_WordsAreLittleEndian :
    decodeBlock [0x21, 0x34, 0x12] = .ok ⟨.none, classify 0x21, none, some (.word 0x1234), 3⟩ ∧
    decodeBlock [0xFD, 0x2A, 0x00, 0x40] = .ok ⟨.fd, classify 0x2A, none, some (.word 0x4000), 4⟩ := by decide

theorem witness_DisplacementsAreSigned :
    decodeBlock [0x38, 0x80] = .ok ⟨.none, classify 0x38, some (-128), none, 2⟩ ∧
    decodeBlock [0xFD, 0x8E, 0x7F] = .ok ⟨.fd, classify 0x8E, some 127, none, 3⟩ ∧
    decodeBlock [0xDD, 0xCB, 0x05, 0x46] = .ok ⟨.ddcb, classify 0x46, some 5, none, 4⟩ := by decide

/-- Records of length 1 and 4, with fewer bytes than that, and four bytes. -/
theorem witness_DecodeIsTotalAndMinimal :
    4 ≤ ([0xDD, 0x36, 0x05, 0x42] : List Byte).length ∧
    decodeBlock [0x00] = .ok ⟨.none, classify 0x00, none, none, 1⟩ ∧ 0 < 1 ∧
    decodeBlock [0xDD, 0x36, 0x05, 0x42] = .ok ⟨.dd, classify 0x36, some 5, some (.byte 0x42), 4⟩ ∧ 3 < 4 := by
  decide

/-- The clauses about the dispatcher's answer. -/
theorem witness_DecodeIsTotalAndMinimal_dispatch :
    prefixDispatch [0xDD, 0x21, 0x34] = .ok ⟨.dd, 1, none⟩ ∧ ([0xDD, 0x21, 0x34] : List Byte)[1]? = some 0x21 ∧
    decodeBlock [0xDD, 0x21, 0x34] = .err .truncated ∧
    prefixDispatch [0xDD, 0x21, 0x34, 0x12] = .ok ⟨.dd, 1, none⟩ ∧
    decodeBlock [0xDD, 0x21, 0x34, 0x12] = .ok ⟨.dd, classify 0x21, none, some (.word 0x1234), 4⟩ := by decide

theorem witness_RecordDependsOnItsOwnBytes :
    decodeBlock [0x3E, 0x42, 0x11] = .ok ⟨.none, classify 0x3E, none, some (.byte 0x42), 2⟩ := by decide

theorem witness_LengthIsFixedByTwoBytes :
    ([0xDD, 0x21, 0x34, 0x12] : List Byte).take 2 = ([0xDD, 0x21, 0x00, 0x40] : List Byte).take 2 ∧
    decodeBlock [0xDD, 0x21, 0x34, 0x12] = .ok ⟨.dd, classify 0x21, none, some (.word 0x1234), 4⟩ ∧
    decodeBlock [0xDD, 0x21, 0x00, 0x40] = .ok ⟨.dd, classify 0x21, none, some (.word 0x4000), 4⟩ := by decide

theorem witness_TruncatedExactlyWhenBytesAreMissing : 4 ≤ ([0xDD, 0xCB, 0x05, 0x46] : List Byte).length := by
  decide

theorem witness_ExtendingATruncatedInput :
    decodeBlock [0x3E, 0x42] = .ok ⟨.none, classify 0x3E, none, some (.byte 0x42), 2⟩ ∧
    decodeBlock [0xFD, 0x36] = .err .truncated ∧ 4 ≤ ([0xFD, 0x36] ++ [0x05, 0x42] : List Byte).length := by decide

theorem witness_RecordsMeetTheirInvariants :
    decodeBlock [0x00] = .ok ⟨.none, classify 0x00, none, none, 1⟩ ∧
    decodeBlock [0xDD, 0xCB, 0x80, 0xCB] = .ok ⟨.ddcb, classify 0xCB, some (-128), none, 4⟩ := by decide

theorem witness_DdAndFdDifferInTheKindOnly :
    (0xCA : Byte) ≠ 0xCB ∧
    decodeBlock [0xDD, 0x34, 0x05] = .ok ⟨.dd, classify 0x34, some 5, none, 3⟩ ∧
    decodeBlock [0xDD, 0xCB, 0x05, 0x46] = .ok ⟨.ddcb, classify 0x46, some 5, none, 4⟩ := by decide

theorem witness_NoPrefixChains :
    (Config.ddByte, PrefixKind.dd) ∈ xyPrefixes ∧ (0xFD : Byte) ∈ [0xDD#8, 0xED#8, 0xFD#8] ∧
    decodeBlock [0xFD, 0xFD] = .ok ⟨.fd, classify 0xFD, none, none, 2⟩ := by decide

/-- Two windows that differ in stale bytes only, and `avail` at both ends of 4 to 7. -/
theorem witness_StaleInputBytesAreIgnored :
    inputBytes ⟨0x3E, 0x42, 0, 0⟩ 2 = inputBytes ⟨0x3E, 0x42, 0xFF, 0xFF⟩ 2 ∧
    4 ≤ (4 : BitVec 3).toNat ∧ 4 ≤ (7 : BitVec 3).toNat := by decide

/-- Every prefix kind, every kind of immediate, a displacement and none, and Truncated. -/
theorem witness_OutputPortsCarryTheResult :
    decodeBlock (inputBytes ⟨0x20, 0x00, 0, 0⟩ 2) = .ok ⟨.none, classify 0x20, some 0, none, 2⟩ ∧
    decodeBlock (inputBytes ⟨0x3E, 0x42, 0, 0⟩ 4) = .ok ⟨.none, classify 0x3E, none, some (.byte 0x42), 2⟩ ∧
    decodeBlock (inputBytes ⟨0x21, 0x34, 0x12, 0⟩ 3) = .ok ⟨.none, classify 0x21, none, some (.word 0x1234), 3⟩ ∧
    decodeBlock (inputBytes ⟨0xCB, 0x46, 0, 0⟩ 4) = .ok ⟨.cb, classify 0x46, none, none, 2⟩ ∧
    decodeBlock (inputBytes ⟨0xED, 0xB0, 0, 0⟩ 2) = .ok ⟨.ed, classify 0xB0, none, none, 2⟩ ∧
    decodeBlock (inputBytes ⟨0xDD, 0x09, 0, 0⟩ 2) = .ok ⟨.dd, classify 0x09, none, none, 2⟩ ∧
    decodeBlock (inputBytes ⟨0xFD, 0x36, 0x80, 0xFF⟩ 7) = .ok ⟨.fd, classify 0x36, some (-128), some (.byte 0xFF), 4⟩ ∧
    decodeBlock (inputBytes ⟨0xDD, 0xCB, 0x05, 0x46⟩ 4) = .ok ⟨.ddcb, classify 0x46, some 5, none, 4⟩ ∧
    decodeBlock (inputBytes ⟨0xFD, 0xCB, 0xFE, 0x7E⟩ 4) = .ok ⟨.fdcb, classify 0x7E, some (-2), none, 4⟩ ∧
    decodeBlock (inputBytes ⟨0x21, 0x34, 0x12, 0⟩ 2) = .err .truncated := by decide

/-- D3: the code of each of the seven kinds at the ports. -/
theorem test_prefix_codes :
    (evalPorts ⟨0x00, 0, 0, 0⟩ 4).prefixCode = 0 ∧ (evalPorts ⟨0xCB, 0, 0, 0⟩ 4).prefixCode = 1 ∧
    (evalPorts ⟨0xDD, 0, 0, 0⟩ 4).prefixCode = 2 ∧ (evalPorts ⟨0xED, 0, 0, 0⟩ 4).prefixCode = 3 ∧
    (evalPorts ⟨0xFD, 0, 0, 0⟩ 4).prefixCode = 4 ∧ (evalPorts ⟨0xDD, 0xCB, 0, 0⟩ 4).prefixCode = 5 ∧
    (evalPorts ⟨0xFD, 0xCB, 0, 0⟩ 4).prefixCode = 6 := by decide

/-- Well-formed terms at the ends of their ranges; for every statement that asks for `wf`. -/
theorem witness_DecodeOfEncode :
    [Instr.nX0Z0Lo 3, .nX0Z0Rel 4 0x80, .nX3Z3Y23 3 0, .ddX1 7 7, .ddX3Z5Q1p 3, .fdIdxX1Y6 7 0xFF,
      .ddIdxX0Z6 0 0, .cbAny 0xCB, .edAny 0, .ddcbAny 0x80 0xCB].all Instr.wf = true := by decide

theorem witness_EncodeOfDecode : decode [0xDD, 0x36, 0x05, 0x42, 0x11] = .ok (.ddIdxX0Z6 0x05 0x42) [0x11] := by
  decide

theorem witness_StepRunsTheDecodedInstruction :
    decode (demo [0x21, 0x34, 0x12, 0x76]).input = .ok (.nX0Z1Q0 2 0x1234) [0x76] := by decide

theorem witness_PlacedInstructionRuns : (Instr.ddIdxX0Z6 0x05 0x42).wf = true ∧ (Instr.nX0Z0Rel 4 0xFE).wf = true := by
  decide

theorem witness_ExecIsDecodeOfTheEncoding : (Instr.fdIdxX1Z6 7 0x02).wf = true ∧ (Instr.nX3Z5Q0p 1).wf = true := by
  decide

/-- Two different states with the same input bytes. -/
theorem witness_NoHiddenState :
    demo [0x3E, 0x42] ≠ State.reset.drive ⟨0x3E, 0x42, 0x77, 0x77⟩ 2 ∧
    (demo [0x3E, 0x42]).input = (State.reset.drive ⟨0x3E, 0x42, 0x77, 0x77⟩ 2).input := by decide

theorem witness_TruncatedConsumesNothing :
    decodeBlock (demo [0xFD, 0x36, 0x05]).input = .err .truncated ∧ decodeBlock (demo []).input = .err .truncated := by
  decide

/-- The frame's clauses: after the step no byte, and one, two, three and four bytes are left. -/
theorem witness_ExecFrame :
    ∀ c ∈ ([([0x3E, 0x42], 0), ([0x3E, 0x42, 1], 1), ([0x3E, 0x42, 1, 2], 2), ([0x3E, 0x42, 1, 2, 3], 3),
        ([0x3E, 0x42, 1, 2, 3, 4, 5], 4)] : List (List Byte × BitVec 3)),
      (match exec (.nX0Z6 7 0x42) (demo c.1) with
        | .next t => t.avail == c.2
        | .fault _ => false
        | .refused _ => false) = true := by decide

/-- The conditions of the rows, at the ends of their ranges. -/
theorem witness_FormatNRowsWithoutOperands :
    (3 : BitVec 3).toNat < 4 ∧ 4 ≤ (4 : BitVec 3).toNat ∧ 4 ≤ (7 : BitVec 3).toNat ∧ (1 : BitVec 2) ≠ 0 := by decide

theorem witness_FormatNRowsWithOperands :
    4 ≤ (4 : BitVec 3).toNat ∧ 4 ≤ (7 : BitVec 3).toNat ∧ ((2 : BitVec 3) = 2 ∨ (2 : BitVec 3) = 3) ∧
    ((3 : BitVec 3) = 2 ∨ (3 : BitVec 3) = 3) := by decide

theorem witness_FormatXyRowsWithoutOperands :
    (3 : BitVec 3).toNat < 4 ∧ 4 ≤ (4 : BitVec 3).toNat ∧ (7 : BitVec 3) ≠ 6 ∧
    ((5 : BitVec 3) ≠ 6 ∧ (7 : BitVec 3) ≠ 6) ∧ (3 : BitVec 2) ≠ 0 := by decide

theorem witness_FormatXyRowsWithOperands :
    4 ≤ (4 : BitVec 3).toNat ∧ (5 : BitVec 3) ≠ 6 ∧ (7 : BitVec 3) ≠ 6 ∧
    ((2 : BitVec 3) = 2 ∨ (2 : BitVec 3) = 3) ∧ ((3 : BitVec 3) = 2 ∨ (3 : BitVec 3) = 3) := by decide

theorem witness_FormatXyIndexedRows : (5 : BitVec 3) ≠ 6 ∧ (7 : BitVec 3) ≠ 6 := by decide

/-- One step of a loaded stream, record and Truncated. -/
theorem witness_StepKeepsTheInvariant :
    MachineInv (demo [0x3E, 0x42, 0xFD]) ∧
    (∃ t, step (demo [0x3E, 0x42, 0xFD]) = .next t ∧
      t.result = .ok ⟨.none, classify 0x3E, none, some (.byte 0x42), 2⟩) ∧
    MachineInv (demo [0xFD]) ∧ ∃ t, step (demo [0xFD]) = .next t ∧ t.result = .err .truncated :=
  ⟨demo_inv _, ⟨_, rfl, by decide⟩, demo_inv _, ⟨_, rfl, rfl⟩⟩

theorem witness_CallerOperationsKeepTheInvariant : MachineInv (demo [0x3E, 0x42]) := demo_inv _

/-- Why `drive` is the exception: the driven ports need not show the stream (log entry 17). -/
theorem test_drive_leaves_the_stream :
    ((demo [0x3E, 0x42]).drive ⟨0, 0, 0, 0⟩ 4).input ≠
      ((demo [0x3E, 0x42]).drive ⟨0, 0, 0, 0⟩ 4).stream.bytesAt 0 Config.window := by decide

theorem witness_AdvanceStaysInTheStream :
    MachineInv (demo [0xDD, 0x34, 0x05]) ∧
    (∃ t, step (demo [0xDD, 0x34, 0x05]) = .next t ∧ t.result = .ok ⟨.dd, classify 0x34, some 5, none, 3⟩) ∧
    (demo [0xDD, 0x34, 0x05]).off ≤ 0 ∧ (0 < 3 ∧ 2 < 3) :=
  ⟨demo_inv _, ⟨_, rfl, by decide⟩, by decide, by decide⟩

theorem witness_WalkIsTheMachineRun :
    MachineInv (demo [0x3E, 0x42, 0x76, 0xDD]) ∧
    (walk (demo [0x3E, 0x42, 0x76, 0xDD]).remaining 0).1[1]? = some ⟨.none, classify 0x76, none, none, 1⟩ :=
  ⟨demo_inv _, by decide⟩

/-- The first and the last byte of the stream, and one that is not there. -/
theorem witness_RewrittenByteIsSeen :
    MachineInv (demo [0x3E, 0x42]) ∧ ((demo [0x3E, 0x42]).stream.read 0).isSome ∧
    ((demo [0x3E, 0x42]).stream.read 1).isSome ∧ (1 : Nat) ≠ 0 :=
  ⟨demo_inv _, by decide, by decide, by decide⟩

/-- P3's end: three bytes of an instruction of four, at the first and at the last offset allowed. -/
theorem witness_SupplyingMoreBytesResumes :
    MachineInv (demo [0xDD, 0x36, 0x05]) ∧ (demo [0xDD, 0x36, 0x05]).stream.isSequence ∧
    (demo [0xDD, 0x36, 0x05]).off ≤ (demo [0xDD, 0x36, 0x05]).stream.length ∧
    MachineInv ((demo [0xDD, 0x36, 0x05]).seek 3) ∧
    ((demo [0xDD, 0x36, 0x05]).seek 3).off ≤ ((demo [0xDD, 0x36, 0x05]).seek 3).stream.length :=
  ⟨demo_inv _, by decide, by decide, present_inv (Memory.ofBytes_wf _) trivial, by decide⟩

end Sys2Proof.Tests
end

section
/-! PROOFS. What one step does, by its input bytes alone (R24, R204, R222): the decoder always finds a
row, every instruction delivers a record of its own, and so a step delivers or reports Truncated. -/

namespace Sys2Proof.Machine

/-! ### The decoder always finds a row (R75, R173) -/

@[simp] theorem takeByte_ne_noRow (rest : List Byte) (k : Byte → Instr) : takeByte rest k ≠ .noRow := by
  cases rest <;> simp [takeByte]

@[simp] theorem takeWord_ne_noRow (rest : List Byte) (k : Word16 → Instr) : takeWord rest k ≠ .noRow := by
  rcases rest with _ | ⟨_, _ | ⟨_, _⟩⟩ <;> simp [takeWord]

@[simp] theorem takeTwo_ne_noRow (rest : List Byte) (k : Byte → Byte → Instr) : takeTwo rest k ≠ .noRow := by
  rcases rest with _ | ⟨_, _ | ⟨_, _⟩⟩ <;> simp [takeTwo]

/-- The class of a byte is the class of a row of the table. -/
theorem exists_row_of_classOf {table : List ClassRow} {op : Byte} {c : OpClass}
    (h : classOf table op = some c) : ∃ r ∈ table, r.cls = c := by
  obtain ⟨r, found, rfl⟩ := Option.map_eq_some_iff.mp h
  exact ⟨r, List.mem_of_find?_eq_some found, rfl⟩

/-- The classes that have rows under DD and FD only. -/
def xyOnlyClasses : List OpClass :=
  [.x3z5q1p, .idxX0Z4, .idxX0Z5, .idxX0Z6, .idxX1Z6, .idxX1Y6, .x1y6z6, .idxX2Z6]

theorem tableN_cls_not_mem_xyOnlyClasses : ∀ r ∈ tableN, r.cls ∉ xyOnlyClasses := by decide

/-- Every byte but 0xCB, 0xDD, 0xED and 0xFD has a row for the kind none. -/
theorem classOf_tableN_isSome : ∀ op : Byte, Config.isPrefixByte op = false → (classOf tableN op).isSome := by
  decide

/-- Every byte but 0xCB has a row for the kinds DD and FD. -/
theorem classOf_tableXY_isSome : ∀ op : Byte, op ≠ Config.cbByte → (classOf tableXY op).isSome := by
  decide

/-- For the kind none the decoder lacks a row only in a class of the kinds DD and FD. -/
theorem mem_xyOnlyClasses_of_decodeN {op : Byte} {rest : List Byte} {c : OpClass}
    (hc : classOf tableN op = some c) (h : decodeN op rest = .noRow) : c ∈ xyOnlyClasses := by
  unfold decodeN at h
  rw [hc] at h
  cases c <;> simp [xyOnlyClasses] at h ⊢

theorem decodeN_ne_noRow {op : Byte} (rest : List Byte) (h : Config.isPrefixByte op = false) :
    decodeN op rest ≠ .noRow := by
  intro noRow
  obtain ⟨c, hc⟩ := Option.isSome_iff_exists.mp (classOf_tableN_isSome op h)
  obtain ⟨r, hr, rfl⟩ := exists_row_of_classOf hc
  exact tableN_cls_not_mem_xyOnlyClasses r hr (mem_xyOnlyClasses_of_decodeN hc noRow)

theorem decodeDD_ne_noRow {op : Byte} (rest : List Byte) (h : op ≠ Config.cbByte) :
    decodeDD op rest ≠ .noRow := by
  obtain ⟨c, hc⟩ := Option.isSome_iff_exists.mp (classOf_tableXY_isSome op h)
  unfold decodeDD
  rw [hc]
  cases c <;> simp

theorem decodeFD_ne_noRow {op : Byte} (rest : List Byte) (h : op ≠ Config.cbByte) :
    decodeFD op rest ≠ .noRow := by
  obtain ⟨c, hc⟩ := Option.isSome_iff_exists.mp (classOf_tableXY_isSome op h)
  unfold decodeFD
  rw [hc]
  cases c <;> simp

/-- No input lacks a row: the branches of the dispatcher, one by one. -/
theorem decode_ne_noRow (bytes : List Byte) : decode bytes ≠ .noRow := by
  unfold decode
  split
  case h_1 => simp
  case h_2 b0 rest =>
    split_ifs with cb ed dd fd
    · exact takeByte_ne_noRow _ _
    · exact takeByte_ne_noRow _ _
    · split
      · simp
      · split_ifs with composite
        · exact takeTwo_ne_noRow _ _
        · exact decodeDD_ne_noRow _ composite
    · split
      · simp
      · split_ifs with composite
        · exact takeTwo_ne_noRow _ _
        · exact decodeFD_ne_noRow _ composite
    · exact decodeN_ne_noRow _ (by simp [Config.isPrefixByte, cb, ed, dd, fd])

/-! ### One step -/

/-- Every instruction delivers a record fixed by its own fields, whatever the state. -/
theorem exec_delivers (i : Instr) : ∃ r, ∀ s, exec i s = .next (deliver r s) := by
  cases i <;> exact ⟨_, fun _ => rfl⟩

theorem step_of_decode_ok {s : State} {i : Instr} {rest : List Byte} (h : decode s.input = .ok i rest) :
    step s = exec i s := by
  simp [step, fetch, h]

theorem step_of_decode_truncated {s : State} (h : decode s.input = .truncated) :
    step s = .next (reportTruncated s) := by
  simp [step, fetch, h]

/-- The input bytes alone fix what a step does: deliver one record, or report Truncated. -/
theorem step_of_input (bytes : List Byte) :
    (∃ r, ∀ s : State, s.input = bytes → step s = .next (deliver r s)) ∨
    ∀ s : State, s.input = bytes → step s = .next (reportTruncated s) := by
  cases h : decode bytes with
  | ok i rest =>
    obtain ⟨r, delivers⟩ := exec_delivers i
    refine .inl ⟨r, fun s hs => ?_⟩
    rw [step_of_decode_ok (hs ▸ h), delivers]
  | truncated => exact .inr fun s hs => step_of_decode_truncated (hs ▸ h)
  | noRow => exact absurd h (decode_ne_noRow bytes)

/-- The result a step leaves is a function of the input bytes. -/
theorem exists_result_of_input (bytes : List Byte) :
    ∃ res, ∀ s : State, s.input = bytes → StepsTo s fun u => u.result = res := by
  rcases step_of_input bytes with ⟨r, delivers⟩ | truncated
  · exact ⟨.ok r, fun s hs => ⟨deliver r s, delivers s hs, deliver_result r s⟩⟩
  · exact ⟨.err .truncated, fun s hs => ⟨reportTruncated s, truncated s hs, reportTruncated_result s⟩⟩

/-- Settles O34: both steps leave the one result their common input bytes fix, and the sampled outputs
carry nothing but the result. -/
theorem noHiddenState : Obligations.NoHiddenState := by
  intro s t same
  obtain ⟨res, fixed⟩ := exists_result_of_input s.input
  obtain ⟨u, hu, resU⟩ := fixed s rfl
  obtain ⟨v, hv, resV⟩ := fixed t same.symm
  have result : u.result = v.result := resU.trans resV.symm
  exact ⟨u, v, hu, hv, result, congrArg outputsOf result⟩

end Sys2Proof.Machine
end

section
/-! PROOFS. What a record of DECODE is made of (R191 to R195, R197), and the byte order of a Word (R43). -/

namespace Sys2Proof.Machine

/-- R9: widening a byte keeps its value. -/
@[simp] theorem zext16_toNat (b : Byte) : (zext16 b).toNat = b.toNat :=
  BitVec.toNat_setWidth_of_le (by decide)

/-- R43: a Word is its low byte and 256 times its high byte; the two halves do not overlap. -/
theorem joinWord_toNat (low high : Byte) : (joinWord low high).toNat = low.toNat + 256 * high.toNat := by
  have hlow : low.toNat < 2 ^ 8 := low.isLt
  have hhigh : high.toNat < 2 ^ 8 := high.isLt
  have shifted : high.toNat <<< 8 % 2 ^ 16 = high.toNat <<< 8 :=
    Nat.mod_eq_of_lt (by rw [Nat.shiftLeft_eq]; omega)
  calc (joinWord low high).toNat
    _ = high.toNat <<< 8 ||| low.toNat := by
      rw [joinWord, BitVec.toNat_or, BitVec.toNat_shiftLeft, zext16_toNat, zext16_toNat, shifted, Nat.or_comm]
    _ = high.toNat <<< 8 + low.toNat := (Nat.shiftLeft_add_eq_or_of_lt hlow _).symm
    _ = low.toNat + 256 * high.toNat := by rw [Nat.shiftLeft_eq]; omega

/-- R193: a fetched Word comes from a shape with a Word, and joins the two bytes after the opcode and
the displacement. -/
theorem fetchImmediate_eq_word {bytes : List Byte} {p : PrefixOut} {sh : Shape} {nn : Word16}
    (h : fetchImmediate bytes p sh = some (.word nn)) :
    sh.imm = .word ∧ ∃ low high, bytes[p.bi + 1 + sh.d]? = some low ∧
      bytes[p.bi + 1 + sh.d + 1]? = some high ∧ nn = joinWord low high := by
  cases imm : sh.imm with
  | none => simp [fetchImmediate, imm] at h
  | byte => simp [fetchImmediate, imm] at h
  | word =>
    simp only [fetchImmediate, imm] at h
    split at h
    case h_1 low high hlow hhigh =>
      cases h
      exact ⟨rfl, low, high, hlow, hhigh, rfl⟩
    case h_2 => cases h

/-- R190 to R195: a record assembled has every byte its length counts, and its fields are those fetched. -/
theorem assemble_eq_ok_iff {bytes : List Byte} {p : PrefixOut} {f : OpcodeByte} {r : Record} :
    assemble bytes p f = .ok r ↔
      recordLength p.bi (shape p.kind f) ≤ bytes.length ∧
      ⟨p.kind, f, fetchDisplacement bytes p (shape p.kind f), fetchImmediate bytes p (shape p.kind f),
        recordLength p.bi (shape p.kind f)⟩ = r := by
  by_cases short : bytes.length < recordLength p.bi (shape p.kind f)
  · simp [assemble, short]
  · simp [assemble, short, Nat.le_of_not_lt short]

/-- R197: DECODE answers a record exactly when the dispatcher answers, the base opcode is there, and
the assembly answers that record. -/
theorem decodeBlock_eq_ok_iff {bytes : List Byte} {r : Record} :
    decodeBlock bytes = .ok r ↔
      ∃ p b, prefixDispatch bytes = .ok p ∧ bytes[p.bi]? = some b ∧ assemble bytes p (classify b) = .ok r := by
  unfold decodeBlock
  cases prefixDispatch bytes with
  | err e => simp
  | ok p => cases base : bytes[p.bi]? <;> simp [base]

/-- R190: an instruction with a Word ends with its two bytes. -/
theorem recordLength_of_word {bi : Nat} {sh : Shape} (h : sh.imm = .word) :
    recordLength bi sh = bi + 1 + sh.d + 2 := by
  simp [recordLength, h, immBytes]

/-- Settles O15: `fetchImmediate` joins the two bytes at the index that is two before the record's length. -/
theorem wordsAreLittleEndian : Obligations.WordsAreLittleEndian := by
  refine ⟨joinWord_toNat, fun bytes r nn decoded word => ?_⟩
  obtain ⟨p, b, -, -, assembled⟩ := decodeBlock_eq_ok_iff.mp decoded
  obtain ⟨-, rfl⟩ := assemble_eq_ok_iff.mp assembled
  obtain ⟨takesWord, low, high, hlow, hhigh, rfl⟩ := fetchImmediate_eq_word word
  exact ⟨_, low, high, hlow, hhigh, (recordLength_of_word takesWord).symm, joinWord_toNat low high⟩

end Sys2Proof.Machine
end

section
/-! PROOFS. What the dispatcher answers (R110 to R118), and the byte a displacement is read from (R71, R192). -/

namespace Sys2Proof.Machine

/-! ### The dispatcher's answers, one kind at a time -/

/-- R111 to R117: the inputs the dispatcher answers, with its answer: one constructor per kind. -/
inductive Dispatches : List Byte → PrefixOut → Prop
  | none {b0 : Byte} {rest : List Byte} (unprefixed : Config.isPrefixByte b0 = false) :
    Dispatches (b0 :: rest) ⟨.none, 0, none⟩
  | cb {b1 : Byte} {rest : List Byte} : Dispatches (Config.cbByte :: b1 :: rest) ⟨.cb, 1, none⟩
  | ed {b1 : Byte} {rest : List Byte} : Dispatches (Config.edByte :: b1 :: rest) ⟨.ed, 1, none⟩
  | dd {b1 : Byte} {rest : List Byte} (plain : b1 ≠ Config.cbByte) :
    Dispatches (Config.ddByte :: b1 :: rest) ⟨.dd, 1, none⟩
  | fd {b1 : Byte} {rest : List Byte} (plain : b1 ≠ Config.cbByte) :
    Dispatches (Config.fdByte :: b1 :: rest) ⟨.fd, 1, none⟩
  | ddcb {d b3 : Byte} {rest : List Byte} :
    Dispatches (Config.ddByte :: Config.cbByte :: d :: b3 :: rest) ⟨.ddcb, 3, some (sext8 d)⟩
  | fdcb {d b3 : Byte} {rest : List Byte} :
    Dispatches (Config.fdByte :: Config.cbByte :: d :: b3 :: rest) ⟨.fdcb, 3, some (sext8 d)⟩

theorem Dispatches.of_prefixDispatch {bytes : List Byte} {p : PrefixOut} (h : prefixDispatch bytes = .ok p) :
    Dispatches bytes p := by
  unfold prefixDispatch at h
  split at h
  case h_1 => cases h
  case h_2 b0 rest =>
    split at h
    case isTrue isCb =>
      rcases rest with _ | _ <;> cases h
      exact isCb ▸ .cb
    case isFalse notCb =>
    split at h
    case isTrue isEd =>
      rcases rest with _ | _ <;> cases h
      exact isEd ▸ .ed
    case isFalse notEd =>
    split at h
    case isTrue isXy =>
      split at h
      case h_1 => cases h
      case h_2 b1 rest1 =>
      split at h
      case isTrue composite =>
        rcases rest1 with _ | ⟨d, _ | ⟨b3, rest⟩⟩ <;> cases h
        rcases isXy with rfl | rfl
        · exact composite ▸ .ddcb
        · exact composite ▸ .fdcb
      case isFalse plain =>
        cases h
        rcases isXy with rfl | rfl
        · exact .dd plain
        · exact .fd plain
    case isFalse notXy =>
      cases h
      obtain ⟨notDd, notFd⟩ := not_or.mp notXy
      exact .none (by simp [Config.isPrefixByte, notCb, notDd, notEd, notFd])

theorem prefixDispatch_eq_ok_iff {bytes : List Byte} {p : PrefixOut} :
    prefixDispatch bytes = .ok p ↔ Dispatches bytes p := by
  refine ⟨.of_prefixDispatch, fun h => ?_⟩
  cases h with
  | none unprefixed => simp_all [prefixDispatch, Config.isPrefixByte]
  | dd plain => exact if_neg plain
  | fd plain => exact if_neg plain
  | _ => rfl

/-- R110: the kind fixes the index of the base opcode. -/
theorem Dispatches.bi_eq {bytes : List Byte} {p : PrefixOut} (h : Dispatches bytes p) :
    p.bi = baseIndexOf p.kind := by
  cases h <;> rfl

/-- R116, R117: the dispatcher's own displacement is `bytes[2]`, and comes with a composite kind only. -/
theorem Dispatches.of_pd_eq_some {bytes : List Byte} {p : PrefixOut} {d : Int} (h : Dispatches bytes p)
    (hd : p.pd = some d) : (p.kind = .ddcb ∨ p.kind = .fdcb) ∧ ∃ b, bytes[2]? = some b ∧ d = sext8 b := by
  cases h with
  | ddcb => exact ⟨.inl rfl, _, rfl, (Option.some.inj hd).symm⟩
  | fdcb => exact ⟨.inr rfl, _, rfl, (Option.some.inj hd).symm⟩
  | _ => cases hd

/-! ### The displacement byte -/

/-- R71: the range of a displacement. -/
theorem sext8_mem_Icc (b : Byte) : sext8 b ∈ Set.Icc (-128) 127 := by
  have hb : b.toNat < 256 := b.isLt
  rw [sext8, Set.mem_Icc]
  split <;> omega

/-- R172: a composite kind takes no displacement after the opcode. -/
theorem not_composite_of_shape_d {kind : PrefixKind} {f : OpcodeByte} (h : (shape kind f).d = 1) :
    ¬ (kind = .ddcb ∨ kind = .fdcb) := by
  rintro (rfl | rfl) <;> simp [shape] at h

/-- R192: a fetched displacement is the byte after the opcode, or else the dispatcher's own. -/
theorem fetchDisplacement_eq_some_iff {bytes : List Byte} {p : PrefixOut} {sh : Shape} {d : Int} :
    fetchDisplacement bytes p sh = some d ↔
      (sh.d = 1 ∧ ∃ b, bytes[p.bi + 1]? = some b ∧ sext8 b = d) ∨ (sh.d ≠ 1 ∧ p.pd = some d) := by
  by_cases after : sh.d = 1 <;> simp [fetchDisplacement, after]

/-- R116, R117, R192: the index in the input of a record's displacement byte. -/
def displacementIndex (kind : PrefixKind) : Nat :=
  if kind = .ddcb ∨ kind = .fdcb then 2 else baseIndexOf kind + 1

/-- Whichever part of the block fetches it, the displacement is read at the index of its kind. -/
theorem Dispatches.displacement_byte {bytes : List Byte} {p : PrefixOut} {f : OpcodeByte} {d : Int}
    (h : Dispatches bytes p) (hd : fetchDisplacement bytes p (shape p.kind f) = some d) :
    ∃ b, d = sext8 b ∧ bytes[displacementIndex p.kind]? = some b := by
  rcases fetchDisplacement_eq_some_iff.mp hd with ⟨after, b, hb, rfl⟩ | ⟨-, dispatched⟩
  · refine ⟨b, rfl, ?_⟩
    rwa [displacementIndex, if_neg (not_composite_of_shape_d after), ← h.bi_eq]
  · obtain ⟨composite, b, hb, rfl⟩ := h.of_pd_eq_some dispatched
    refine ⟨b, rfl, ?_⟩
    rwa [displacementIndex, if_pos composite]

/-- Settles O16: the displacement byte is the dispatcher's or the one after the opcode, each read by `sext8`. -/
theorem displacementsAreSigned : Obligations.DisplacementsAreSigned := by
  refine ⟨fun _ => rfl, fun bytes r d decoded hd => ?_⟩
  obtain ⟨p, b, dispatched, -, assembled⟩ := decodeBlock_eq_ok_iff.mp decoded
  obtain ⟨-, rfl⟩ := assemble_eq_ok_iff.mp assembled
  obtain ⟨c, rfl, hc⟩ := (Dispatches.of_prefixDispatch dispatched).displacement_byte hd
  obtain ⟨lower, upper⟩ := sext8_mem_Icc c
  exact ⟨c, rfl, lower, upper, hc⟩

end Sys2Proof.Machine
end

section
/-! PROOFS. The bit-field extractor and the classifier (R90 to R102): the bits of a range as a number
and one by one, the five fields as instances, and the byte put together again from x, y and z. -/

namespace Sys2Proof.Machine

/-! ### EXTRACT_BITS (R90) -/

/-- R90: no bit of the range is lost, since a quotient of a byte fits in a byte. -/
theorem extractBits_toNat (byte : Byte) (low high : Nat) (h : low ≤ high ∧ high ≤ 7) :
    (extractBits byte low high h).toNat = (byte.toNat >>> low) % 2 ^ (high - low + 1) := by
  have fits : byte.toNat / 2 ^ low % 2 ^ (high - low + 1) < 2 ^ 8 :=
    calc byte.toNat / 2 ^ low % 2 ^ (high - low + 1)
      _ ≤ byte.toNat / 2 ^ low := Nat.mod_le _ _
      _ ≤ byte.toNat := Nat.div_le_self _ _
      _ < 2 ^ 8 := byte.isLt
  rw [extractBits, BitVec.toNat_ofNat, Nat.mod_eq_of_lt fits, Nat.shiftRight_eq_div_pow]

/-- R90: the result is below the power of two of the range's width. -/
theorem extractBits_toNat_lt (byte : Byte) (low high : Nat) (h : low ≤ high ∧ high ≤ 7) :
    (extractBits byte low high h).toNat < 2 ^ (high - low + 1) := by
  rw [extractBits_toNat]
  exact Nat.mod_lt _ (Nat.two_pow_pos _)

theorem extractBits_getLsbD (byte : Byte) (low high : Nat) (h : low ≤ high ∧ high ≤ 7) (i : Nat) :
    (extractBits byte low high h).getLsbD i = (decide (i ≤ high - low) && byte.getLsbD (low + i)) := by
  rw [BitVec.getLsbD, extractBits_toNat, Nat.testBit_mod_two_pow, Nat.testBit_shiftRight, BitVec.getLsbD,
    decide_eq_decide.mpr Nat.lt_succ_iff]

/-- Settles O1: the range as a number, and bit by bit. -/
theorem extractBitsReadsTheRange : Obligations.ExtractBitsReadsTheRange :=
  fun byte low high h => ⟨extractBits_toNat byte low high h, extractBits_getLsbD byte low high h⟩

/-! ### The five fields (R92) -/

theorem fieldX_toNat (b : Byte) : (fieldX b).toNat = b.toNat >>> 6 := by
  have hb : b.toNat >>> 6 < 4 := by
    rw [Nat.shiftRight_eq_div_pow]
    have := b.isLt
    omega
  exact (extractBits_toNat b 6 7 _).trans (Nat.mod_eq_of_lt hb)

theorem fieldY_toNat (b : Byte) : (fieldY b).toNat = (b.toNat >>> 3) % 8 := extractBits_toNat b 3 5 _
theorem fieldZ_toNat (b : Byte) : (fieldZ b).toNat = b.toNat % 8 := extractBits_toNat b 0 2 _
theorem fieldP_toNat (b : Byte) : (fieldP b).toNat = (b.toNat >>> 4) % 4 := extractBits_toNat b 4 5 _
theorem fieldQ_toNat (b : Byte) : (fieldQ b).toNat = (b.toNat >>> 3) % 2 := extractBits_toNat b 3 3 _

/-- Settles O2: each value is that of its range, and each bound that of its width. -/
theorem fiveFieldsHaveTheirValues : Obligations.FiveFieldsHaveTheirValues := fun b =>
  ⟨fieldX_toNat b, Nat.le_of_lt_succ (extractBits_toNat_lt b 6 7 _),
   fieldY_toNat b, Nat.le_of_lt_succ (extractBits_toNat_lt b 3 5 _),
   fieldZ_toNat b, Nat.le_of_lt_succ (extractBits_toNat_lt b 0 2 _),
   fieldP_toNat b, Nat.le_of_lt_succ (extractBits_toNat_lt b 4 5 _),
   fieldQ_toNat b, Nat.le_of_lt_succ (extractBits_toNat_lt b 3 3 _)⟩

/-! ### CLASSIFY (R100, R102) -/

/-- R102: the second view of y, bits 5 and 4 and then bit 3. -/
theorem fieldY_eq (b : Byte) : fieldY b = fieldP b * 2 + fieldQ b := by
  apply BitVec.eq_of_toNat_eq
  have two : (2 : Byte).toNat = 2 := rfl
  rw [BitVec.toNat_add, BitVec.toNat_mul, fieldY_toNat, fieldP_toNat, fieldQ_toNat, two]
  simp only [Nat.shiftRight_eq_div_pow]
  omega

/-- R102: each bit of the byte lies in exactly one of the three ranges, where its shift puts it back. -/
theorem fields_rebuild (b : Byte) : (fieldX b <<< 6 ||| fieldY b <<< 3 ||| fieldZ b) = b := by
  apply BitVec.eq_of_getLsbD_eq
  intro i hi
  simp only [fieldX, fieldY, fieldZ, BitVec.getLsbD_or, BitVec.getLsbD_shiftLeft, extractBits_getLsbD]
  have ranges : i ≤ 2 ∨ (3 ≤ i ∧ i ≤ 5) ∨ 6 ≤ i := by omega
  rcases ranges with inZ | ⟨aboveZ, inY⟩ | inX
  · simp [inZ, show i < 3 by omega, show i < 6 by omega]
  · simp [aboveZ, hi, show i < 6 by omega, show ¬ i ≤ 2 by omega, show i - 3 ≤ 2 by omega]
  · simp [inX, hi, show ¬ i ≤ 2 by omega, show i - 6 ≤ 1 by omega, show ¬ i - 3 ≤ 2 by omega]

/-- Settles O3: bytes with the same x, y, z are put together from the same parts. -/
theorem classifyRebuildsTheByte : Obligations.ClassifyRebuildsTheByte := by
  refine ⟨fun b => ⟨fieldY_eq b, fields_rebuild b, rfl⟩, fun a b (hx : fieldX a = fieldX b)
    (hy : fieldY a = fieldY b) (hz : fieldZ a = fieldZ b) => ?_⟩
  rw [← fields_rebuild a, hx, hy, hz, fields_rebuild b]

end Sys2Proof.Machine
end

section
/-! PROOFS. The dispatcher's answers as 41_prefix_dispatch.md states them (R111 to R118), and DD and FD
side by side (R115): the operands stand after the base opcode, so once the dispatcher has answered the
first byte is not read as an operand, and the kind is all it decides. -/

namespace Sys2Proof.Machine

/-! ### Every kind dispatched (R111 to R118) -/

/-- R112 to R115, R118: with 0xCB, 0xED, 0xDD or 0xFD alone the base opcode is missing. -/
theorem prefixDispatch_lone_prefix :
    ∀ p ∈ [0xCB#8, 0xED#8, 0xDD#8, 0xFD#8], prefixDispatch [p] = .err .truncated := by decide

/-- R116 to R118: in a composite form of two or three bytes the base opcode is missing. -/
theorem prefixDispatch_short_composite (b2 : Byte) :
    ∀ p ∈ [0xDD#8, 0xFD#8], prefixDispatch [p, 0xCB#8] = .err .truncated ∧
      prefixDispatch [p, 0xCB#8, b2] = .err .truncated := by
  simp only [List.forall_mem_cons]
  exact ⟨⟨rfl, rfl⟩, ⟨rfl, rfl⟩, fun _ absent => nomatch absent⟩

/-- Settles O4: one constructor of `Dispatches` per kind, and the inputs that end too early. -/
theorem prefixKindsAreDispatched : Obligations.PrefixKindsAreDispatched := fun _ _ b2 _ _ =>
  have answers {bytes : List Byte} {p : PrefixOut} : Dispatches bytes p → prefixDispatch bytes = .ok p :=
    prefixDispatch_eq_ok_iff.mpr
  ⟨fun unprefixed => answers (.none unprefixed), answers .cb, answers .ed,
    fun plain => ⟨answers (.dd plain), answers (.fd plain)⟩, answers .ddcb, answers .fdcb,
    prefixDispatch_lone_prefix, prefixDispatch_short_composite b2⟩

/-! ### DD and FD side by side (R115) -/

/-- R115: two results that are Truncated together, or records that differ in `prefixKind` only. -/
inductive SameButKind (k k' : PrefixKind) : DecodeResult → DecodeResult → Prop
  | truncated : SameButKind k k' (.err .truncated) (.err .truncated)
  | record (r : Record) (kind : r.prefixKind = k) : SameButKind k k' (.ok r) (.ok { r with prefixKind := k' })

theorem SameButKind.truncated_iff {k k' : PrefixKind} {x y : DecodeResult} (h : SameButKind k k' x y) :
    x = .err .truncated ↔ y = .err .truncated := by
  cases h <;> simp

theorem SameButKind.of_ok {k k' : PrefixKind} {y : DecodeResult} {r : Record}
    (h : SameButKind k k' (.ok r) y) : r.prefixKind = k ∧ y = .ok { r with prefixKind := k' } := by
  cases h with
  | record _ kind => exact ⟨kind, rfl⟩

/-- R192: the displacement stands after the base opcode, so never at index 0. -/
theorem fetchDisplacement_cons (a b : Byte) (rest : List Byte) (k k' : PrefixKind) (bi : Nat)
    (pd : Option Int) (sh : Shape) :
    fetchDisplacement (a :: rest) ⟨k, bi, pd⟩ sh = fetchDisplacement (b :: rest) ⟨k', bi, pd⟩ sh := by
  simp [fetchDisplacement]

/-- R193: the immediate stands after the base opcode, so never at index 0. -/
theorem fetchImmediate_cons (a b : Byte) (rest : List Byte) (k k' : PrefixKind) (bi : Nat)
    (pd : Option Int) (sh : Shape) :
    fetchImmediate (a :: rest) ⟨k, bi, pd⟩ sh = fetchImmediate (b :: rest) ⟨k', bi, pd⟩ sh := by
  have after : bi + 1 + sh.d = (bi + sh.d) + 1 := by omega
  simp [fetchImmediate, after]

/-- R190 to R195: under two kinds of one shape the assembly takes the same bytes, whatever the first is. -/
theorem assemble_sameButKind (a b : Byte) (rest : List Byte) {k k' : PrefixKind} {f : OpcodeByte}
    (bi : Nat) (pd : Option Int) (sameShape : shape k' f = shape k f) :
    SameButKind k k' (assemble (a :: rest) ⟨k, bi, pd⟩ f) (assemble (b :: rest) ⟨k', bi, pd⟩ f) := by
  simp only [assemble, sameShape, List.length_cons, fetchDisplacement_cons b a rest k' k,
    fetchImmediate_cons b a rest k' k]
  split
  · exact .truncated
  · exact .record _ rfl

/-- R197: DECODE on an input the dispatcher answers is the assembly at the base opcode. -/
theorem decodeBlock_of_prefixDispatch {bytes : List Byte} {p : PrefixOut} {b : Byte}
    (dispatched : prefixDispatch bytes = .ok p) (base : bytes[p.bi]? = some b) :
    decodeBlock bytes = assemble bytes p (classify b) := by
  simp [decodeBlock, dispatched, base]

/-- R114, R115: DD and FD before a byte that is not 0xCB. -/
theorem decodeBlock_dd_fd_plain {b1 : Byte} (rest : List Byte) (plain : b1 ≠ Config.cbByte) :
    SameButKind .dd .fd (decodeBlock (Config.ddByte :: b1 :: rest))
      (decodeBlock (Config.fdByte :: b1 :: rest)) := by
  rw [decodeBlock_of_prefixDispatch (prefixDispatch_eq_ok_iff.mpr (.dd plain)) rfl,
    decodeBlock_of_prefixDispatch (prefixDispatch_eq_ok_iff.mpr (.fd plain)) rfl]
  exact assemble_sameButKind _ _ _ 1 none rfl

/-- R116, R117: DD and FD before 0xCB; short of four bytes both are Truncated. -/
theorem decodeBlock_dd_fd_composite (rest : List Byte) :
    SameButKind .ddcb .fdcb (decodeBlock (Config.ddByte :: Config.cbByte :: rest))
      (decodeBlock (Config.fdByte :: Config.cbByte :: rest)) := by
  rcases rest with _ | ⟨d, _ | ⟨b3, rest⟩⟩
  · exact .truncated
  · exact .truncated
  · rw [decodeBlock_of_prefixDispatch (prefixDispatch_eq_ok_iff.mpr .ddcb) rfl,
      decodeBlock_of_prefixDispatch (prefixDispatch_eq_ok_iff.mpr .fdcb) rfl]
    exact assemble_sameButKind _ _ _ 3 (some (sext8 d)) rfl

/-- R115 to R117: whatever follows, DD and FD give results of the plain kinds, or of the composite ones,
that differ in the kind only. -/
theorem decodeBlock_dd_fd (rest : List Byte) :
    SameButKind .dd .fd (decodeBlock (Config.ddByte :: rest)) (decodeBlock (Config.fdByte :: rest)) ∨
    SameButKind .ddcb .fdcb (decodeBlock (Config.ddByte :: rest)) (decodeBlock (Config.fdByte :: rest)) := by
  cases rest with
  | nil => exact .inl .truncated
  | cons b1 rest =>
    by_cases composite : b1 = Config.cbByte
    · exact .inr (composite ▸ decodeBlock_dd_fd_composite rest)
    · exact .inl (decodeBlock_dd_fd_plain rest composite)

/-- Settles O23: the dispatcher's clause for FD, and the comparison of the two results. -/
theorem ddAndFdDifferInTheKindOnly : Obligations.DdAndFdDifferInTheKindOnly := by
  refine ⟨fun b1 rest plain => prefixDispatch_eq_ok_iff.mpr (.fd plain), rfl, fun rest =>
    ⟨(decodeBlock_dd_fd rest).elim SameButKind.truncated_iff SameButKind.truncated_iff, fun r decoded => ?_⟩⟩
  have compared := decodeBlock_dd_fd rest
  rw [show decodeBlock (Config.ddByte :: rest) = .ok r from decoded] at compared
  exact compared.imp SameButKind.of_ok SameButKind.of_ok

end Sys2Proof.Machine
end

section
/-! PROOFS. The operands after the base opcode (R130, R190 to R195). An input is what stands before the
base opcode, the base opcode and its tail. Once the dispatcher has answered, the shape alone says what is
taken from the tail, whatever stands before; a class of 42_operand_length.md is then a list of base
opcodes with one shape. -/

namespace Sys2Proof.Machine

/-! ### DECODE from the base opcode on -/

section BaseOpcode

variable {pre tail : List Byte} {b : Byte} {k : PrefixKind} {pd : Option Int} {sh : Shape}

/-- R190: the operands stand after the base opcode, at the same distance whatever stands before it. -/
theorem getElem?_after_base (i : Nat) : (pre ++ b :: tail)[pre.length + 1 + i]? = (b :: tail)[0 + 1 + i]? := by
  rw [Nat.add_assoc, Nat.add_assoc, Nat.zero_add, List.getElem?_append_right (Nat.le_add_right _ _),
    Nat.add_sub_cancel_left]

theorem fetchDisplacement_after_base :
    fetchDisplacement (pre ++ b :: tail) ⟨k, pre.length, pd⟩ sh = fetchDisplacement (b :: tail) ⟨k, 0, pd⟩ sh := by
  simp only [fetchDisplacement]
  rw [← Nat.add_zero (pre.length + 1), getElem?_after_base]

theorem fetchImmediate_after_base :
    fetchImmediate (pre ++ b :: tail) ⟨k, pre.length, pd⟩ sh = fetchImmediate (b :: tail) ⟨k, 0, pd⟩ sh := by
  simp only [fetchImmediate, getElem?_after_base, Nat.add_assoc (pre.length + 1), Nat.add_assoc (0 + 1)]

/-- R191: the length test asks whether the tail has the operand bytes of the shape. -/
theorem length_lt_recordLength_iff :
    (pre ++ b :: tail).length < recordLength pre.length sh ↔ tail.length < sh.d + immBytes sh.imm := by
  simp only [recordLength, List.length_append, List.length_cons]
  omega

theorem decodeBlock_of_base (h : Dispatches (pre ++ b :: tail) ⟨k, pre.length, pd⟩) :
    decodeBlock (pre ++ b :: tail) = assemble (pre ++ b :: tail) ⟨k, pre.length, pd⟩ (classify b) :=
  decodeBlock_of_prefixDispatch (prefixDispatch_eq_ok_iff.mpr h) (by simp)

/-- R191: Truncated when the tail lacks a byte of the shape. -/
theorem decodeBlock_eq_truncated_of_base (h : Dispatches (pre ++ b :: tail) ⟨k, pre.length, pd⟩)
    (hs : shape k (classify b) = sh) (short : tail.length < sh.d + immBytes sh.imm) :
    decodeBlock (pre ++ b :: tail) = .err .truncated := by
  rw [decodeBlock_of_base h]
  simp only [assemble, hs, if_pos (length_lt_recordLength_iff.mpr short)]

/-- R191 to R195: a record when the tail has the bytes of the shape, with the operands of the same tail
after a base opcode that stands first. -/
theorem decodeBlock_eq_ok_of_base (h : Dispatches (pre ++ b :: tail) ⟨k, pre.length, pd⟩)
    (hs : shape k (classify b) = sh) (present : sh.d + immBytes sh.imm ≤ tail.length) :
    decodeBlock (pre ++ b :: tail) =
      .ok ⟨k, classify b, fetchDisplacement (b :: tail) ⟨k, 0, pd⟩ sh, fetchImmediate (b :: tail) ⟨k, 0, pd⟩ sh,
        recordLength pre.length sh⟩ := by
  rw [decodeBlock_of_base h]
  simp only [assemble, hs, if_neg (mt length_lt_recordLength_iff.mp (Nat.not_lt.mpr present)),
    fetchDisplacement_after_base, fetchImmediate_after_base]

end BaseOpcode

/-! ### CB, ED, DD-CB and FD-CB (R170 to R172) -/

/-- Settles O12: each of the four kinds has the shape "nothing" for every base opcode. -/
theorem otherKindsTakeNothingFurther : Obligations.OtherKindsTakeNothingFurther := fun _ d _ =>
  ⟨decodeBlock_eq_ok_of_base (pre := [_]) .cb rfl (Nat.zero_le _),
    decodeBlock_eq_ok_of_base (pre := [_]) .ed rfl (Nat.zero_le _),
    decodeBlock_eq_ok_of_base (pre := [_, _, d]) .ddcb rfl (Nat.zero_le _),
    decodeBlock_eq_ok_of_base (pre := [_, _, d]) .fdcb rfl (Nat.zero_le _)⟩

/-! ### Class X3Z3.Y1 (R148) -/

/-- R111, R114, R115: a base opcode of kind none, DD or FD is not 0xCB, which at `bytes[0]` selects
the kind CB and at `bytes[1]` a composite form. -/
theorem Dispatches.base_ne_cb {bytes : List Byte} {p : PrefixOut} {b : Byte} (h : Dispatches bytes p)
    (kind : p.kind = .none ∨ p.kind = .dd ∨ p.kind = .fd) (base : bytes[p.bi]? = some b) : b ≠ Config.cbByte := by
  cases h with
  | none unprefixed =>
    cases base
    rintro rfl
    cases unprefixed
  | dd plain | fd plain =>
    cases base
    exact plain
  | _ => simp at kind

theorem opcode_raw_ne_cb {bytes : List Byte} {r : Record} (decoded : decodeBlock bytes = .ok r)
    (kind : r.prefixKind = .none ∨ r.prefixKind = .dd ∨ r.prefixKind = .fd) : r.opcode.raw ≠ Config.cbByte := by
  obtain ⟨p, b, dispatched, base, assembled⟩ := decodeBlock_eq_ok_iff.mp decoded
  obtain ⟨-, rfl⟩ := assemble_eq_ok_iff.mp assembled
  exact (Dispatches.of_prefixDispatch dispatched).base_ne_cb kind base

/-- R148: the three sub-fields x = 3, z = 3, y = 1 are those of 0xCB, and CLASSIFY is injective on them. -/
theorem classify_x3z3y1_iff (b : Byte) :
    (classify b).x = 3 ∧ (classify b).z = 3 ∧ (classify b).y = 1 ↔ b = 0xCB#8 := by
  constructor
  · rintro ⟨hx, hz, hy⟩
    exact classifyRebuildsTheByte.2 b 0xCB#8 hx hy hz
  · rintro rfl
    decide

/-- Settles O8: 0xCB is no base opcode of the three kinds, and of the other four it is one like any other. -/
theorem classX3Z3Y1IsNeverConsulted : Obligations.ClassX3Z3Y1IsNeverConsulted :=
  ⟨classify_x3z3y1_iff, by decide, fun _ _ => opcode_raw_ne_cb, by decide, by decide,
    otherKindsTakeNothingFurther 0xCB#8⟩

/-! ### The kinds none, DD and FD side by side (R61, R64) -/

/-- R61, R64: what stands before the base opcode in the formats N and XY, with the kind. -/
inductive Front : List Byte → PrefixKind → Prop
  | plain : Front [] .none
  | dd : Front [Config.ddByte] .dd
  | fd : Front [Config.fdByte] .fd

theorem Front.xy {pk : Byte × PrefixKind} (hpk : pk ∈ xyPrefixes) : Front [pk.1] pk.2 := by
  rcases List.mem_pair.mp hpk with rfl | rfl
  · exact .dd
  · exact .fd

/-- R130: `b` is a base opcode of all the kinds none, DD and FD, and SHAPE gives it the one value `sh`
under each: so it is none of the four bytes of R72, and no indexed form (R160). -/
abbrev HasShape (sh : Shape) (b : Byte) : Prop :=
  Config.isPrefixByte b = false ∧ ∀ k ∈ [PrefixKind.none, .dd, .fd], shape k (classify b) = sh

section Shapes

variable {sh : Shape} {b : Byte} {pre : List Byte} {k : PrefixKind} {tail : List Byte}

theorem HasShape.shape_eq (h : HasShape sh b) (front : Front pre k) : shape k (classify b) = sh := by
  cases front <;> exact h.2 _ (by simp)

theorem HasShape.dispatches (h : HasShape sh b) (front : Front pre k) :
    Dispatches (pre ++ b :: tail) ⟨k, pre.length, none⟩ := by
  have notCb : b ≠ Config.cbByte := by
    rintro rfl
    cases h.1
  cases front with
  | plain => exact .none h.1
  | dd => exact .dd notCb
  | fd => exact .fd notCb

theorem HasShape.decodeBlock_eq_truncated (h : HasShape sh b) (front : Front pre k)
    (short : tail.length < sh.d + immBytes sh.imm) : decodeBlock (pre ++ b :: tail) = .err .truncated :=
  decodeBlock_eq_truncated_of_base (h.dispatches front) (h.shape_eq front) short

theorem HasShape.decodeBlock_eq_ok (h : HasShape sh b) (front : Front pre k)
    (present : sh.d + immBytes sh.imm ≤ tail.length) :
    decodeBlock (pre ++ b :: tail) =
      .ok ⟨k, classify b, fetchDisplacement (b :: tail) ⟨k, 0, none⟩ sh, fetchImmediate (b :: tail) ⟨k, 0, none⟩ sh,
        recordLength pre.length sh⟩ :=
  decodeBlock_eq_ok_of_base (h.dispatches front) (h.shape_eq front) present

/-! The four shapes of the classes: the operand bytes are there, or the last one or both are missing. -/

theorem HasShape.takesNothing (h : HasShape ⟨0, .none⟩ b) : TakesNothing b :=
  ⟨fun _ => h.decodeBlock_eq_ok .plain (Nat.zero_le _),
    fun _ hpk _ => h.decodeBlock_eq_ok (.xy hpk) (Nat.zero_le _)⟩

theorem HasShape.takesByte (h : HasShape ⟨0, .byte⟩ b) : TakesByte b :=
  ⟨⟨fun _ rest => h.decodeBlock_eq_ok .plain (Nat.le_add_left 1 rest.length),
    h.decodeBlock_eq_truncated .plain Nat.zero_lt_one⟩,
    fun _ hpk => ⟨fun _ rest => h.decodeBlock_eq_ok (.xy hpk) (Nat.le_add_left 1 rest.length),
      h.decodeBlock_eq_truncated (.xy hpk) Nat.zero_lt_one⟩⟩

theorem HasShape.takesDisplacement (h : HasShape ⟨1, .none⟩ b) : TakesDisplacement b :=
  ⟨fun _ rest => h.decodeBlock_eq_ok .plain (Nat.le_add_left 1 rest.length),
    h.decodeBlock_eq_truncated .plain Nat.zero_lt_one,
    fun _ hpk => ⟨fun _ rest => h.decodeBlock_eq_ok (.xy hpk) (Nat.le_add_left 1 rest.length),
      h.decodeBlock_eq_truncated (.xy hpk) Nat.zero_lt_one⟩⟩

theorem HasShape.takesWord (h : HasShape ⟨0, .word⟩ b) : TakesWord b :=
  ⟨fun _ _ rest => h.decodeBlock_eq_ok .plain (Nat.le_add_left 2 rest.length),
    fun _ => h.decodeBlock_eq_truncated .plain Nat.one_lt_two,
    h.decodeBlock_eq_truncated .plain Nat.zero_lt_two,
    fun _ hpk => ⟨fun _ _ rest => h.decodeBlock_eq_ok (.xy hpk) (Nat.le_add_left 2 rest.length),
      fun _ => h.decodeBlock_eq_truncated (.xy hpk) Nat.one_lt_two,
      h.decodeBlock_eq_truncated (.xy hpk) Nat.zero_lt_two⟩⟩

end Shapes

/-! ### The classes with x = 0 and x = 3 (R131 to R156) -/

/-- A class takes the operands of a shape when the table gives it that shape: its condition selects just
its bytes, and SHAPE has the one value on each of them. -/
theorem ClassTakes.of_hasShape {selects : OpcodeByte → Bool} {opcodes : List Byte} {sh : Shape}
    {takes : Byte → Prop} (takes_of_hasShape : ∀ {b}, HasShape sh b → takes b)
    (table : (∀ b : Byte, selects (classify b) = true ↔ b ∈ opcodes) ∧ ∀ b ∈ opcodes, HasShape sh b) :
    ClassTakes selects opcodes takes :=
  table.imp_right fun shapes b listed => takes_of_hasShape (shapes b listed)

/-- Settles O6: each class with its shape, the table's entries by evaluation. -/
theorem classesOfX0TakeTheirOperands : Obligations.ClassesOfX0TakeTheirOperands :=
  ⟨.of_hasShape HasShape.takesNothing (by decide),       -- R131
   .of_hasShape HasShape.takesDisplacement (by decide),  -- R132
   .of_hasShape HasShape.takesWord (by decide),          -- R133
   .of_hasShape HasShape.takesNothing (by decide),       -- R134
   .of_hasShape HasShape.takesNothing (by decide),       -- R135
   .of_hasShape HasShape.takesWord (by decide),          -- R136
   .of_hasShape HasShape.takesNothing (by decide),       -- R137
   .of_hasShape HasShape.takesNothing (by decide)⟩       -- R141

/-- Settles O7: each class with its shape, the table's entries by evaluation. -/
theorem classesOfX3TakeTheirOperands : Obligations.ClassesOfX3TakeTheirOperands :=
  ⟨.of_hasShape HasShape.takesNothing (by decide),  -- R144
   .of_hasShape HasShape.takesNothing (by decide),  -- R145
   .of_hasShape HasShape.takesWord (by decide),     -- R146
   .of_hasShape HasShape.takesWord (by decide),     -- R147
   .of_hasShape HasShape.takesByte (by decide),     -- R149
   .of_hasShape HasShape.takesNothing (by decide),  -- R150
   .of_hasShape HasShape.takesWord (by decide),     -- R152
   .of_hasShape HasShape.takesNothing (by decide),  -- R153
   .of_hasShape HasShape.takesByte (by decide),     -- R155
   .of_hasShape HasShape.takesNothing (by decide)⟩  -- R156

end Sys2Proof.Machine
end

section
/-! PROOFS. When DECODE answers a record (R190, R191, R198): the dispatcher and the shape fix a length of
at most four, and the input has a record exactly when it has that many bytes. -/

namespace Sys2Proof.Machine

/-! ### The length an input calls for (R190, R196) -/

/-- R130: the unprefixed table asks for at most two operand bytes: one displacement, a Byte or a Word. -/
theorem utable_operandBytes_le (f : OpcodeByte) : (utable f).d + immBytes (utable f).imm ≤ 2 := by
  unfold utable
  split_ifs <;> decide

/-- R160 to R167: no indexed form takes a Word, so there is room for its displacement. -/
theorem utable_immBytes_le_of_idx {f : OpcodeByte} (indexed : idx f = true) : immBytes (utable f).imm ≤ 1 := by
  simp only [idx, Bool.or_eq_true, Bool.and_eq_true, beq_iff_eq] at indexed
  rcases indexed with (⟨⟨hx, -⟩, (hz | hz) | hz⟩ | ⟨hx, -⟩) | ⟨hx, -⟩ <;> simp [utable, *, immBytes]

theorem shape_operandBytes_le (kind : PrefixKind) (f : OpcodeByte) :
    (shape kind f).d + immBytes (shape kind f).imm ≤ 2 := by
  cases kind with
  | none => exact utable_operandBytes_le f
  | dd | fd =>
    simp only [shape]
    split
    case isTrue indexed => exact Nat.add_le_add_left (utable_immBytes_le_of_idx indexed) 1
    case isFalse => exact utable_operandBytes_le f
  | cb | ed | ddcb | fdcb => exact Nat.zero_le 2

/-- R196: no instruction is longer than four bytes; a composite form, whose base opcode is the fourth,
takes no operand after it. -/
theorem recordLength_le_four (kind : PrefixKind) (f : OpcodeByte) :
    recordLength (baseIndexOf kind) (shape kind f) ≤ 4 := by
  have operands := shape_operandBytes_le kind f
  cases kind with
  | ddcb | fdcb => exact Nat.le_refl 4
  | _ => simp only [recordLength, baseIndexOf]; omega

/-! ### The dispatcher on a longer input -/

/-- R119: the base opcode is there whenever the dispatcher answers. -/
theorem Dispatches.exists_base {bytes : List Byte} {p : PrefixOut} (h : Dispatches bytes p) :
    ∃ b, bytes[p.bi]? = some b := by
  cases h <;> exact ⟨_, rfl⟩

/-- R110: the dispatcher looks at no byte after the base opcode. -/
theorem Dispatches.append {bytes : List Byte} {p : PrefixOut} (h : Dispatches bytes p) (more : List Byte) :
    Dispatches (bytes ++ more) p := by
  cases h with
  | none unprefixed => exact .none unprefixed
  | cb => exact .cb
  | ed => exact .ed
  | dd plain => exact .dd plain
  | fd plain => exact .fd plain
  | ddcb => exact .ddcb
  | fdcb => exact .fdcb

/-- R118: with four bytes the dispatcher misses none, whatever they are. -/
theorem exists_dispatches_of_four (b0 b1 b2 b3 : Byte) (rest : List Byte) :
    ∃ p, Dispatches (b0 :: b1 :: b2 :: b3 :: rest) p := by
  by_cases prefixed : Config.isPrefixByte b0 = true
  case neg => exact ⟨_, .none (Bool.eq_false_iff.mpr prefixed)⟩
  simp only [Config.isPrefixByte, Bool.or_eq_true, beq_iff_eq] at prefixed
  rcases prefixed with ((rfl | rfl) | rfl) | rfl
  · exact ⟨_, .cb⟩
  · by_cases composite : b1 = Config.cbByte
    · exact composite ▸ ⟨_, .ddcb⟩
    · exact ⟨_, .dd composite⟩
  · exact ⟨_, .ed⟩
  · by_cases composite : b1 = Config.cbByte
    · exact composite ▸ ⟨_, .fdcb⟩
    · exact ⟨_, .fd composite⟩

/-! ### A record exactly when its bytes are there (R198) -/

/-- R8: a result is Truncated or a record. -/
theorem truncated_or_exists_ok : ∀ x : DecodeResult, x = .err .truncated ∨ ∃ r, x = .ok r
  | .err .truncated => .inl rfl
  | .ok r => .inr ⟨r, rfl⟩

section Dispatched

variable {bytes : List Byte} {p : PrefixOut} {b : Byte}

/-- R198: `n >= L`. -/
theorem exists_record_iff (dispatched : prefixDispatch bytes = .ok p) (base : bytes[p.bi]? = some b) :
    (∃ r, decodeBlock bytes = .ok r) ↔ recordLength p.bi (shape p.kind (classify b)) ≤ bytes.length := by
  simp [decodeBlock_of_prefixDispatch dispatched base, assemble_eq_ok_iff]

/-- R195: the record's length is `L`. -/
theorem length_eq_recordLength {r : Record} (dispatched : prefixDispatch bytes = .ok p)
    (base : bytes[p.bi]? = some b) (decoded : decodeBlock bytes = .ok r) :
    r.length = recordLength p.bi (shape p.kind (classify b)) := by
  rw [decodeBlock_of_prefixDispatch dispatched base] at decoded
  obtain ⟨-, rfl⟩ := assemble_eq_ok_iff.mp decoded
  rfl

end Dispatched

/-- R191: a record has no more bytes than there are. -/
theorem length_le_of_decodeBlock {bytes : List Byte} {r : Record} (decoded : decodeBlock bytes = .ok r) :
    r.length ≤ bytes.length := by
  obtain ⟨p, b, -, -, assembled⟩ := decodeBlock_eq_ok_iff.mp decoded
  obtain ⟨present, rfl⟩ := assemble_eq_ok_iff.mp assembled
  exact present

/-- R198: four bytes are enough for every length. -/
theorem exists_record_of_four_le {bytes : List Byte} (four : 4 ≤ bytes.length) :
    ∃ r, decodeBlock bytes = .ok r := by
  have dispatches : ∃ p, Dispatches bytes p := by
    match bytes, four with
    | b0 :: b1 :: b2 :: b3 :: rest, _ => exact exists_dispatches_of_four b0 b1 b2 b3 rest
  obtain ⟨p, h⟩ := dispatches
  obtain ⟨b, base⟩ := h.exists_base
  refine (exists_record_iff (prefixDispatch_eq_ok_iff.mpr h) base).mpr ?_
  rw [h.bi_eq]
  exact (recordLength_le_four p.kind (classify b)).trans four

/-- R198: more bytes after those of a record leave the length as it is, for the dispatcher answers the
same and the base opcode is the same byte. -/
theorem length_eq_of_decodeBlock_append {bytes more : List Byte} {q r : Record}
    (short : decodeBlock bytes = .ok q) (long : decodeBlock (bytes ++ more) = .ok r) : r.length = q.length := by
  obtain ⟨p, b, dispatched, base, -⟩ := decodeBlock_eq_ok_iff.mp short
  have dispatchedLong : prefixDispatch (bytes ++ more) = .ok p :=
    prefixDispatch_eq_ok_iff.mpr ((Dispatches.of_prefixDispatch dispatched).append more)
  obtain ⟨inside, -⟩ := List.getElem?_eq_some_iff.mp base
  have baseLong : (bytes ++ more)[p.bi]? = some b := (List.getElem?_append_left inside).trans base
  rw [length_eq_recordLength dispatchedLong baseLong long, length_eq_recordLength dispatched base short]

/-- R198: a beginning shorter than the record is Truncated; a record of it would be as long as the whole
input's, and so longer than the beginning. -/
theorem decodeBlock_take_eq_truncated {bytes : List Byte} {r : Record} {k : Nat}
    (decoded : decodeBlock bytes = .ok r) (shorter : k < r.length) :
    decodeBlock (bytes.take k) = .err .truncated := by
  refine (truncated_or_exists_ok _).resolve_right ?_
  rintro ⟨q, short⟩
  have sameLength : r.length = q.length :=
    length_eq_of_decodeBlock_append short (more := bytes.drop k) (by rwa [List.take_append_drop])
  have fits : q.length ≤ k := (length_le_of_decodeBlock short).trans (List.length_take_le k bytes)
  omega

/-- Settles O17: the length the dispatcher and the shape call for, against the bytes present. -/
theorem decodeIsTotalAndMinimal : Obligations.DecodeIsTotalAndMinimal :=
  ⟨fun _ _ _ dispatched base =>
      ⟨exists_record_iff dispatched base, fun _ => length_eq_recordLength dispatched base⟩,
    fun bytes => truncated_or_exists_ok (decodeBlock bytes),
    fun _ => exists_record_of_four_le,
    fun _ _ decoded => ⟨length_le_of_decodeBlock decoded, fun _ => decodeBlock_take_eq_truncated decoded⟩⟩

end Sys2Proof.Machine
end

section
/-! PROOFS. The formats N and XY row by row (R61, R64, R82). A row is a format and a class; the free
sub-fields of the base opcode and the operand bytes make it an instruction. The table names the class of
a base opcode and the class gives the base opcode back, so `decode`, `encode`, the instruction's meaning
and SHAPE are compared once for a row, whatever its class. -/

namespace Sys2Proof

open Machine

/-! ### Rows -/

/-- The free sub-fields of a base opcode (R67), at their own widths. -/
structure Fields where
  y : BitVec 3
  z : BitVec 3
  p : BitVec 2
  q : BitVec 1

def fieldsOf (op : Byte) : Fields := ⟨bitsY op, bitsZ op, bitsP op, bitsQ op⟩

@[simp] theorem bitsY_opXYZ (x : BitVec 2) (y z : BitVec 3) : bitsY (opXYZ x y z) = y := by decide +revert
@[simp] theorem bitsZ_opXYZ (x : BitVec 2) (y z : BitVec 3) : bitsZ (opXYZ x y z) = z := by decide +revert
@[simp] theorem bitsP_opXPQZ (x p : BitVec 2) (q : BitVec 1) (z : BitVec 3) : bitsP (opXPQZ x p q z) = p := by
  decide +revert
@[simp] theorem bitsQ_opXPQZ (x p : BitVec 2) (q : BitVec 1) (z : BitVec 3) : bitsQ (opXPQZ x p q z) = q := by
  decide +revert

/-- The base opcode of a class with these fields (R67, R82). -/
def OpClass.opcode (f : Fields) : OpClass → Byte
  | .x0z0lo | .x0z0rel => opXYZ 0 f.y 0
  | .x0z1q0 => opXPQZ 0 f.p 0 1
  | .x0z1q1 => opXPQZ 0 f.p 1 1
  | .x0z2plo | .x0z2phi => opXYZ 0 f.y 2
  | .x0z3 => opXYZ 0 f.y 3
  | .x0z4 => opXYZ 0 f.y 4
  | .x0z5 => opXYZ 0 f.y 5
  | .x0z6 => opXYZ 0 f.y 6
  | .x0z7 => opXYZ 0 f.y 7
  | .x1 => opXYZ 1 f.y f.z
  | .x2 => opXYZ 2 f.y f.z
  | .x3z0 => opXYZ 3 f.y 0
  | .x3z1 => opXYZ 3 f.y 1
  | .x3z2 => opXYZ 3 f.y 2
  | .x3z3y0 => opXYZ 3 0 3
  | .x3z3y23 | .x3z3yhi => opXYZ 3 f.y 3
  | .x3z4 => opXYZ 3 f.y 4
  | .x3z5p0 => opXPQZ 3 0 f.q 5
  | .x3z5q0p => opXPQZ 3 f.p 0 5
  | .x3z5q1p => opXPQZ 3 f.p 1 5
  | .x3z6 => opXYZ 3 f.y 6
  | .x3z7 => opXYZ 3 f.y 7
  | .idxX0Z4 => opXYZ 0 6 4
  | .idxX0Z5 => opXYZ 0 6 5
  | .idxX0Z6 => opXYZ 0 6 6
  | .idxX1Z6 => opXYZ 1 f.y 6
  | .idxX1Y6 => opXYZ 1 6 f.z
  | .x1y6z6 => opXYZ 1 6 6
  | .idxX2Z6 => opXYZ 2 f.y 6

/-- The five shapes of 42_operand_length.md. -/
inductive OperandForm where
  | nothing | disp | byte | word | dispByte

/-- The operand form of a class (R131 to R167). -/
def OpClass.form : OpClass → OperandForm
  | .x0z0rel | .idxX0Z4 | .idxX0Z5 | .idxX1Z6 | .idxX1Y6 | .idxX2Z6 => .disp
  | .x0z6 | .x3z3y23 | .x3z6 => .byte
  | .x0z1q0 | .x0z2phi | .x3z2 | .x3z3y0 | .x3z5p0 => .word
  | .idxX0Z6 => .dispByte
  | _ => .nothing

def OperandForm.shape : OperandForm → Shape
  | .nothing => ⟨0, .none⟩
  | .disp => ⟨1, .none⟩
  | .byte => ⟨0, .byte⟩
  | .word => ⟨0, .word⟩
  | .dispByte => ⟨1, .byte⟩

/-- The formats whose base opcode is looked up in the table: N, and XY under DD and under FD. -/
inductive Format where
  | n | dd | fd

/-- What stands before the base opcode (R61, R64). -/
def Format.front : Format → List Byte
  | .n => []
  | .dd => [Config.ddByte]
  | .fd => [Config.fdByte]

def Format.kind : Format → PrefixKind
  | .n => .none
  | .dd => .dd
  | .fd => .fd

def Format.table : Format → List ClassRow
  | .n => tableN
  | .dd | .fd => tableXY

/-- The base opcodes of a format: no byte that selects another format (R72). -/
def Format.allows (op : Byte) : Format → Bool
  | .n => !Config.isPrefixByte op
  | .dd | .fd => op != Config.cbByte

/-- R160: the indexed forms are rows of their own under DD and FD, and not in format N. -/
def Format.plain : Format → Bool
  | .n => true
  | .dd | .fd => false

/-- The selecting condition of a class (R131 to R167). -/
def Format.selects (fmt : Format) (f : Fields) : OpClass → Bool
  | .x0z0lo | .x0z2plo => decide (f.y.toNat < 4)
  | .x0z0rel | .x0z2phi | .x3z3yhi => decide (4 ≤ f.y.toNat)
  | .x0z4 | .x0z5 | .x0z6 => fmt.plain || f.y != 6
  | .x1 => fmt.plain || f.y != 6 && f.z != 6
  | .x2 => fmt.plain || f.z != 6
  | .x3z3y23 => f.y == 2 || f.y == 3
  | .x3z5q0p => f.p != 0
  | .x3z5q1p => !fmt.plain && f.p != 0
  | .idxX1Z6 => !fmt.plain && f.y != 6
  | .idxX1Y6 => !fmt.plain && f.z != 6
  | .idxX0Z4 | .idxX0Z5 | .idxX0Z6 | .x1y6z6 | .idxX2Z6 => !fmt.plain
  | _ => true

/-! ### The table read both ways (R82) -/

/-- From the byte to the class: the class gives the byte back, selects it, and has the shape SHAPE
gives it. -/
theorem class_sound (fmt : Format) (op : Byte) : ∀ c ∈ classOf fmt.table op,
    fmt.allows op = true ∧ c.opcode (fieldsOf op) = op ∧ fmt.selects (fieldsOf op) c = true ∧
      shape fmt.kind (classify op) = c.form.shape := by
  revert op
  cases fmt <;> decide

/-- From the class to the byte: the row of the base opcode of a class is the class's. For each class the
fields its base opcode has are few enough to try. -/
theorem classOf_opcode {fmt : Format} {f : Fields} {c : OpClass} (selected : fmt.selects f c = true) :
    classOf fmt.table (c.opcode f) = some c := by
  obtain ⟨y, z, p, q⟩ := f
  revert selected
  cases fmt <;> cases c <;> dsimp only [Format.selects, Format.plain, Format.table, OpClass.opcode] <;> decide +revert

/-- R75: every base opcode of a format has a class. -/
theorem exists_class {fmt : Format} {op : Byte} (allowed : fmt.allows op = true) :
    ∃ c, classOf fmt.table op = some c := by
  refine Option.isSome_iff_exists.mp ?_
  cases fmt with
  | n => exact classOf_tableN_isSome op (by simpa [Format.allows] using allowed)
  | dd | fd => exact classOf_tableXY_isSome op (by simpa [Format.allows] using allowed)

/-! ### The operand bytes of a row -/

/-- Operand bytes; a form uses its own and no other. -/
structure Operands where
  d : Byte
  n : Byte
  nn : Word16

/-- The stream bytes of the operands (R44, R66): a displacement first, a Word low byte first. -/
def OperandForm.bytes (o : Operands) : OperandForm → List Byte
  | .nothing => []
  | .disp => [o.d]
  | .byte => [o.n]
  | .word => [lowByte o.nn, highByte o.nn]
  | .dispByte => [o.d, o.n]

def OperandForm.displacement (o : Operands) : OperandForm → Option Int
  | .nothing | .byte | .word => none
  | .disp | .dispByte => some (sext8 o.d)

def OperandForm.immediate (o : Operands) : OperandForm → Option Immediate
  | .nothing | .disp => none
  | .byte | .dispByte => some (.byte o.n)
  | .word => some (.word o.nn)

/-- The operands with those a form does not use cleared. -/
def OperandForm.used (o : Operands) : OperandForm → Operands
  | .nothing => ⟨0, 0, 0⟩
  | .disp => ⟨o.d, 0, 0⟩
  | .byte => ⟨0, o.n, 0⟩
  | .word => ⟨0, 0, o.nn⟩
  | .dispByte => ⟨o.d, o.n, 0⟩

/-- The decoder's way to take the operands of a form (R190). -/
def OperandForm.take (tail : List Byte) (k : Operands → Instr) : OperandForm → Decoded
  | .nothing => .ok (k ⟨0, 0, 0⟩) tail
  | .disp => takeByte tail fun d => k ⟨d, 0, 0⟩
  | .byte => takeByte tail fun n => k ⟨0, n, 0⟩
  | .word => takeWord tail fun nn => k ⟨0, 0, nn⟩
  | .dispByte => takeTwo tail fun d n => k ⟨d, n, 0⟩

/-- R43: a Word is joined from its own two bytes. -/
@[simp] theorem joinWord_lowByte_highByte (nn : Word16) : joinWord (lowByte nn) (highByte nn) = nn := by
  apply BitVec.eq_of_toNat_eq
  have : nn.toNat < 65536 := nn.isLt
  rw [joinWord_toNat]
  simp only [lowByte, highByte, BitVec.extractLsb'_toNat, Nat.shiftRight_eq_div_pow]
  omega

@[simp] theorem lowByte_joinWord (low high : Byte) : lowByte (joinWord low high) = low := by
  apply BitVec.eq_of_toNat_eq
  have : low.toNat < 256 := low.isLt
  simp only [lowByte, BitVec.extractLsb'_toNat, joinWord_toNat, Nat.shiftRight_eq_div_pow]
  omega

@[simp] theorem highByte_joinWord (low high : Byte) : highByte (joinWord low high) = high := by
  apply BitVec.eq_of_toNat_eq
  have : low.toNat < 256 := low.isLt
  have : high.toNat < 256 := high.isLt
  simp only [highByte, BitVec.extractLsb'_toNat, joinWord_toNat, Nat.shiftRight_eq_div_pow]
  omega

theorem OperandForm.take_bytes (form : OperandForm) (o : Operands) (rest : List Byte) (k : Operands → Instr) :
    form.take (form.bytes o ++ rest) k = .ok (k (form.used o)) rest := by
  cases form with
  | word => simp [take, bytes, used, takeWord]
  | _ => rfl

theorem OperandForm.length_bytes (form : OperandForm) (o : Operands) :
    (form.bytes o).length = form.shape.d + immBytes form.shape.imm := by
  cases form <;> rfl

/-- The tail of a base opcode has the operand bytes of a form, or is too short for them. -/
theorem OperandForm.bytes_or_short (form : OperandForm) (tail : List Byte) (k : Operands → Instr) :
    (∃ o rest, tail = form.bytes o ++ rest) ∨
      (tail.length < form.shape.d + immBytes form.shape.imm ∧ form.take tail k = .truncated) := by
  cases form with
  | nothing => exact .inl ⟨⟨0, 0, 0⟩, tail, rfl⟩
  | disp =>
    rcases tail with _ | ⟨d, rest⟩
    · exact .inr ⟨Nat.zero_lt_one, rfl⟩
    · exact .inl ⟨⟨d, 0, 0⟩, rest, rfl⟩
  | byte =>
    rcases tail with _ | ⟨n, rest⟩
    · exact .inr ⟨Nat.zero_lt_one, rfl⟩
    · exact .inl ⟨⟨0, n, 0⟩, rest, rfl⟩
  | word =>
    rcases tail with _ | ⟨low, _ | ⟨high, rest⟩⟩
    · exact .inr ⟨Nat.zero_lt_two, rfl⟩
    · exact .inr ⟨Nat.one_lt_two, rfl⟩
    · exact .inl ⟨⟨0, 0, joinWord low high⟩, rest, by simp [bytes]⟩
  | dispByte =>
    rcases tail with _ | ⟨d, _ | ⟨n, rest⟩⟩
    · exact .inr ⟨Nat.zero_lt_two, rfl⟩
    · exact .inr ⟨Nat.one_lt_two, rfl⟩
    · exact .inl ⟨⟨d, n, 0⟩, rest, rfl⟩

/-- R192, R193: what the assembly fetches behind a base opcode are the operands of the form. -/
theorem OperandForm.fetch (form : OperandForm) (o : Operands) (b : Byte) (rest : List Byte) (k : PrefixKind) :
    fetchDisplacement (b :: (form.bytes o ++ rest)) ⟨k, 0, none⟩ form.shape = form.displacement o ∧
    fetchImmediate (b :: (form.bytes o ++ rest)) ⟨k, 0, none⟩ form.shape = form.immediate o := by
  cases form with
  | word => exact ⟨rfl, by simp [fetchImmediate, shape, bytes, immediate]⟩
  | _ => exact ⟨rfl, rfl⟩

/-! ### The instruction of a row -/

/-- Format N (R61). The classes of XY alone are selected by no fields here, so their term is arbitrary. -/
def instrN (f : Fields) (o : Operands) : OpClass → Instr
  | .x0z0lo => .nX0Z0Lo f.y
  | .x0z0rel => .nX0Z0Rel f.y o.d
  | .x0z1q0 => .nX0Z1Q0 f.p o.nn
  | .x0z1q1 => .nX0Z1Q1 f.p
  | .x0z2plo => .nX0Z2Plo f.y
  | .x0z2phi => .nX0Z2Phi f.y o.nn
  | .x0z3 => .nX0Z3 f.y
  | .x0z4 => .nX0Z4 f.y
  | .x0z5 => .nX0Z5 f.y
  | .x0z6 => .nX0Z6 f.y o.n
  | .x0z7 => .nX0Z7 f.y
  | .x1 => .nX1 f.y f.z
  | .x2 => .nX2 f.y f.z
  | .x3z0 => .nX3Z0 f.y
  | .x3z1 => .nX3Z1 f.y
  | .x3z2 => .nX3Z2 f.y o.nn
  | .x3z3y0 => .nX3Z3Y0 o.nn
  | .x3z3y23 => .nX3Z3Y23 f.y o.n
  | .x3z3yhi => .nX3Z3Yhi f.y
  | .x3z4 => .nX3Z4 f.y
  | .x3z5p0 => .nX3Z5P0 f.q o.nn
  | .x3z5q0p => .nX3Z5Q0p f.p
  | .x3z6 => .nX3Z6 f.y o.n
  | .x3z7 => .nX3Z7 f.y
  | .x3z5q1p | .idxX0Z4 | .idxX0Z5 | .idxX0Z6 | .idxX1Z6 | .idxX1Y6 | .x1y6z6 | .idxX2Z6 => .nX1 0 0

/-- Format XY under DD (R64). -/
def instrDD (f : Fields) (o : Operands) : OpClass → Instr
  | .x0z0lo => .ddX0Z0Lo f.y
  | .x0z0rel => .ddX0Z0Rel f.y o.d
  | .x0z1q0 => .ddX0Z1Q0 f.p o.nn
  | .x0z1q1 => .ddX0Z1Q1 f.p
  | .x0z2plo => .ddX0Z2Plo f.y
  | .x0z2phi => .ddX0Z2Phi f.y o.nn
  | .x0z3 => .ddX0Z3 f.y
  | .x0z4 => .ddX0Z4 f.y
  | .x0z5 => .ddX0Z5 f.y
  | .x0z6 => .ddX0Z6 f.y o.n
  | .x0z7 => .ddX0Z7 f.y
  | .x1 => .ddX1 f.y f.z
  | .x2 => .ddX2 f.y f.z
  | .x3z0 => .ddX3Z0 f.y
  | .x3z1 => .ddX3Z1 f.y
  | .x3z2 => .ddX3Z2 f.y o.nn
  | .x3z3y0 => .ddX3Z3Y0 o.nn
  | .x3z3y23 => .ddX3Z3Y23 f.y o.n
  | .x3z3yhi => .ddX3Z3Yhi f.y
  | .x3z4 => .ddX3Z4 f.y
  | .x3z5p0 => .ddX3Z5P0 f.q o.nn
  | .x3z5q0p => .ddX3Z5Q0p f.p
  | .x3z5q1p => .ddX3Z5Q1p f.p
  | .x3z6 => .ddX3Z6 f.y o.n
  | .x3z7 => .ddX3Z7 f.y
  | .idxX0Z4 => .ddIdxX0Z4 o.d
  | .idxX0Z5 => .ddIdxX0Z5 o.d
  | .idxX0Z6 => .ddIdxX0Z6 o.d o.n
  | .idxX1Z6 => .ddIdxX1Z6 f.y o.d
  | .idxX1Y6 => .ddIdxX1Y6 f.z o.d
  | .x1y6z6 => .ddX1Y6Z6
  | .idxX2Z6 => .ddIdxX2Z6 f.y o.d

/-- Format XY under FD (R64). -/
def instrFD (f : Fields) (o : Operands) : OpClass → Instr
  | .x0z0lo => .fdX0Z0Lo f.y
  | .x0z0rel => .fdX0Z0Rel f.y o.d
  | .x0z1q0 => .fdX0Z1Q0 f.p o.nn
  | .x0z1q1 => .fdX0Z1Q1 f.p
  | .x0z2plo => .fdX0Z2Plo f.y
  | .x0z2phi => .fdX0Z2Phi f.y o.nn
  | .x0z3 => .fdX0Z3 f.y
  | .x0z4 => .fdX0Z4 f.y
  | .x0z5 => .fdX0Z5 f.y
  | .x0z6 => .fdX0Z6 f.y o.n
  | .x0z7 => .fdX0Z7 f.y
  | .x1 => .fdX1 f.y f.z
  | .x2 => .fdX2 f.y f.z
  | .x3z0 => .fdX3Z0 f.y
  | .x3z1 => .fdX3Z1 f.y
  | .x3z2 => .fdX3Z2 f.y o.nn
  | .x3z3y0 => .fdX3Z3Y0 o.nn
  | .x3z3y23 => .fdX3Z3Y23 f.y o.n
  | .x3z3yhi => .fdX3Z3Yhi f.y
  | .x3z4 => .fdX3Z4 f.y
  | .x3z5p0 => .fdX3Z5P0 f.q o.nn
  | .x3z5q0p => .fdX3Z5Q0p f.p
  | .x3z5q1p => .fdX3Z5Q1p f.p
  | .x3z6 => .fdX3Z6 f.y o.n
  | .x3z7 => .fdX3Z7 f.y
  | .idxX0Z4 => .fdIdxX0Z4 o.d
  | .idxX0Z5 => .fdIdxX0Z5 o.d
  | .idxX0Z6 => .fdIdxX0Z6 o.d o.n
  | .idxX1Z6 => .fdIdxX1Z6 f.y o.d
  | .idxX1Y6 => .fdIdxX1Y6 f.z o.d
  | .x1y6z6 => .fdX1Y6Z6
  | .idxX2Z6 => .fdIdxX2Z6 f.y o.d

def Format.instr (f : Fields) (o : Operands) (c : OpClass) : Format → Instr
  | .n => instrN f o c
  | .dd => instrDD f o c
  | .fd => instrFD f o c

def Format.decodeOp (op : Byte) (tail : List Byte) : Format → Decoded
  | .n => decodeN op tail
  | .dd => decodeDD op tail
  | .fd => decodeFD op tail

section Rows

variable {fmt : Format} {f : Fields} {c : OpClass}

/-- A row's instruction: it is well-formed, its bytes are front, base opcode and operands, and it delivers
the record of these (R199, R200). -/
theorem instr_spec (selected : fmt.selects f c = true) (o : Operands) :
    (fmt.instr f o c).wf = true ∧
    encode (fmt.instr f o c) = fmt.front ++ c.opcode f :: c.form.bytes o ∧
    ∀ s, exec (fmt.instr f o c) s = .next (deliver ⟨fmt.kind, classify (c.opcode f), c.form.displacement o,
      c.form.immediate o, recordLength fmt.front.length c.form.shape⟩ s) := by
  cases fmt with
  | n =>
    cases c with
    | x3z5q1p | idxX0Z4 | idxX0Z5 | idxX0Z6 | idxX1Z6 | idxX1Y6 | x1y6z6 | idxX2Z6 => cases selected
    | _ => exact ⟨selected, rfl, fun _ => rfl⟩
  | dd | fd => cases c <;> exact ⟨selected, rfl, fun _ => rfl⟩

/-- A row's instruction has the operands of its form only. -/
theorem instr_used (o : Operands) : fmt.instr f (c.form.used o) c = fmt.instr f o c := by
  cases fmt <;> cases c <;> rfl

/-- R67: a row's instruction has the fields its base opcode was made of. -/
theorem instr_fieldsOf_opcode (o : Operands) : fmt.instr (fieldsOf (c.opcode f)) o c = fmt.instr f o c := by
  cases fmt <;> cases c <;> simp [Format.instr, instrN, instrDD, instrFD, fieldsOf, OpClass.opcode]

/-- The decoder at a base opcode takes the operands of its class. -/
theorem decodeOp_of_class {op : Byte} (row : classOf fmt.table op = some c) (tail : List Byte) :
    fmt.decodeOp op tail = c.form.take tail fun o => fmt.instr (fieldsOf op) o c := by
  obtain ⟨-, -, selected, -⟩ := class_sound fmt op c row
  cases fmt with
  | n =>
    rw [Format.decodeOp, decodeN, show classOf tableN op = some c from row]
    cases c with
    | x3z5q1p | idxX0Z4 | idxX0Z5 | idxX0Z6 | idxX1Z6 | idxX1Y6 | x1y6z6 | idxX2Z6 => cases selected
    | _ => rfl
  | dd =>
    rw [Format.decodeOp, decodeDD, show classOf tableXY op = some c from row]
    cases c <;> rfl
  | fd =>
    rw [Format.decodeOp, decodeFD, show classOf tableXY op = some c from row]
    cases c <;> rfl

/-- R110: the decoder on an allowed base opcode behind its front. -/
theorem decode_front {op : Byte} (allowed : fmt.allows op = true) (tail : List Byte) :
    decode (fmt.front ++ op :: tail) = fmt.decodeOp op tail := by
  cases fmt with
  | n => simp_all [Format.allows, Format.front, Format.decodeOp, decode, Config.isPrefixByte]
  | dd | fd => exact if_neg (by simpa [Format.allows] using allowed)

/-- R111, R114, R115: the dispatcher answers the format's kind at an allowed base opcode. -/
theorem Format.dispatches {op : Byte} (allowed : fmt.allows op = true) (tail : List Byte) :
    Dispatches (fmt.front ++ op :: tail) ⟨fmt.kind, fmt.front.length, none⟩ := by
  cases fmt with
  | n => exact .none (by simpa [Format.allows] using allowed)
  | dd => exact .dd (by simpa [Format.allows] using allowed)
  | fd => exact .fd (by simpa [Format.allows] using allowed)

end Rows

/-! ### Every instruction -/

/-- A well-formed instruction is that of a row, or of one of the four kinds with one class (R170 to R172). -/
inductive RowOrAny : Instr → Prop
  | row (fmt : Format) (f : Fields) (o : Operands) (c : OpClass) (selected : fmt.selects f c = true) :
    RowOrAny (fmt.instr f o c)
  | cb (op : Byte) : RowOrAny (.cbAny op)
  | ed (op : Byte) : RowOrAny (.edAny op)
  | ddcb (d op : Byte) : RowOrAny (.ddcbAny d op)
  | fdcb (d op : Byte) : RowOrAny (.fdcbAny d op)

theorem rowOrAny {i : Instr} (wf : i.wf = true) : RowOrAny i := by
  cases i with
  | nX0Z0Lo y => exact .row .n ⟨y, 0, 0, 0⟩ ⟨0, 0, 0⟩ .x0z0lo wf
  | nX0Z0Rel y d => exact .row .n ⟨y, 0, 0, 0⟩ ⟨d, 0, 0⟩ .x0z0rel wf
  | nX0Z1Q0 p nn => exact .row .n ⟨0, 0, p, 0⟩ ⟨0, 0, nn⟩ .x0z1q0 wf
  | nX0Z1Q1 p => exact .row .n ⟨0, 0, p, 0⟩ ⟨0, 0, 0⟩ .x0z1q1 wf
  | nX0Z2Plo y => exact .row .n ⟨y, 0, 0, 0⟩ ⟨0, 0, 0⟩ .x0z2plo wf
  | nX0Z2Phi y nn => exact .row .n ⟨y, 0, 0, 0⟩ ⟨0, 0, nn⟩ .x0z2phi wf
  | nX0Z3 y => exact .row .n ⟨y, 0, 0, 0⟩ ⟨0, 0, 0⟩ .x0z3 wf
  | nX0Z4 y => exact .row .n ⟨y, 0, 0, 0⟩ ⟨0, 0, 0⟩ .x0z4 wf
  | nX0Z5 y => exact .row .n ⟨y, 0, 0, 0⟩ ⟨0, 0, 0⟩ .x0z5 wf
  | nX0Z6 y n => exact .row .n ⟨y, 0, 0, 0⟩ ⟨0, n, 0⟩ .x0z6 wf
  | nX0Z7 y => exact .row .n ⟨y, 0, 0, 0⟩ ⟨0, 0, 0⟩ .x0z7 wf
  | nX1 y z => exact .row .n ⟨y, z, 0, 0⟩ ⟨0, 0, 0⟩ .x1 wf
  | nX2 y z => exact .row .n ⟨y, z, 0, 0⟩ ⟨0, 0, 0⟩ .x2 wf
  | nX3Z0 y => exact .row .n ⟨y, 0, 0, 0⟩ ⟨0, 0, 0⟩ .x3z0 wf
  | nX3Z1 y => exact .row .n ⟨y, 0, 0, 0⟩ ⟨0, 0, 0⟩ .x3z1 wf
  | nX3Z2 y nn => exact .row .n ⟨y, 0, 0, 0⟩ ⟨0, 0, nn⟩ .x3z2 wf
  | nX3Z3Y0 nn => exact .row .n ⟨0, 0, 0, 0⟩ ⟨0, 0, nn⟩ .x3z3y0 wf
  | nX3Z3Y23 y n => exact .row .n ⟨y, 0, 0, 0⟩ ⟨0, n, 0⟩ .x3z3y23 wf
  | nX3Z3Yhi y => exact .row .n ⟨y, 0, 0, 0⟩ ⟨0, 0, 0⟩ .x3z3yhi wf
  | nX3Z4 y => exact .row .n ⟨y, 0, 0, 0⟩ ⟨0, 0, 0⟩ .x3z4 wf
  | nX3Z5P0 q nn => exact .row .n ⟨0, 0, 0, q⟩ ⟨0, 0, nn⟩ .x3z5p0 wf
  | nX3Z5Q0p p => exact .row .n ⟨0, 0, p, 0⟩ ⟨0, 0, 0⟩ .x3z5q0p wf
  | nX3Z6 y n => exact .row .n ⟨y, 0, 0, 0⟩ ⟨0, n, 0⟩ .x3z6 wf
  | nX3Z7 y => exact .row .n ⟨y, 0, 0, 0⟩ ⟨0, 0, 0⟩ .x3z7 wf
  | ddX0Z0Lo y => exact .row .dd ⟨y, 0, 0, 0⟩ ⟨0, 0, 0⟩ .x0z0lo wf
  | ddX0Z0Rel y d => exact .row .dd ⟨y, 0, 0, 0⟩ ⟨d, 0, 0⟩ .x0z0rel wf
  | ddX0Z1Q0 p nn => exact .row .dd ⟨0, 0, p, 0⟩ ⟨0, 0, nn⟩ .x0z1q0 wf
  | ddX0Z1Q1 p => exact .row .dd ⟨0, 0, p, 0⟩ ⟨0, 0, 0⟩ .x0z1q1 wf
  | ddX0Z2Plo y => exact .row .dd ⟨y, 0, 0, 0⟩ ⟨0, 0, 0⟩ .x0z2plo wf
  | ddX0Z2Phi y nn => exact .row .dd ⟨y, 0, 0, 0⟩ ⟨0, 0, nn⟩ .x0z2phi wf
  | ddX0Z3 y => exact .row .dd ⟨y, 0, 0, 0⟩ ⟨0, 0, 0⟩ .x0z3 wf
  | ddX0Z4 y => exact .row .dd ⟨y, 0, 0, 0⟩ ⟨0, 0, 0⟩ .x0z4 wf
  | ddX0Z5 y => exact .row .dd ⟨y, 0, 0, 0⟩ ⟨0, 0, 0⟩ .x0z5 wf
  | ddX0Z6 y n => exact .row .dd ⟨y, 0, 0, 0⟩ ⟨0, n, 0⟩ .x0z6 wf
  | ddX0Z7 y => exact .row .dd ⟨y, 0, 0, 0⟩ ⟨0, 0, 0⟩ .x0z7 wf
  | ddX1 y z => exact .row .dd ⟨y, z, 0, 0⟩ ⟨0, 0, 0⟩ .x1 wf
  | ddX2 y z => exact .row .dd ⟨y, z, 0, 0⟩ ⟨0, 0, 0⟩ .x2 wf
  | ddX3Z0 y => exact .row .dd ⟨y, 0, 0, 0⟩ ⟨0, 0, 0⟩ .x3z0 wf
  | ddX3Z1 y => exact .row .dd ⟨y, 0, 0, 0⟩ ⟨0, 0, 0⟩ .x3z1 wf
  | ddX3Z2 y nn => exact .row .dd ⟨y, 0, 0, 0⟩ ⟨0, 0, nn⟩ .x3z2 wf
  | ddX3Z3Y0 nn => exact .row .dd ⟨0, 0, 0, 0⟩ ⟨0, 0, nn⟩ .x3z3y0 wf
  | ddX3Z3Y23 y n => exact .row .dd ⟨y, 0, 0, 0⟩ ⟨0, n, 0⟩ .x3z3y23 wf
  | ddX3Z3Yhi y => exact .row .dd ⟨y, 0, 0, 0⟩ ⟨0, 0, 0⟩ .x3z3yhi wf
  | ddX3Z4 y => exact .row .dd ⟨y, 0, 0, 0⟩ ⟨0, 0, 0⟩ .x3z4 wf
  | ddX3Z5P0 q nn => exact .row .dd ⟨0, 0, 0, q⟩ ⟨0, 0, nn⟩ .x3z5p0 wf
  | ddX3Z5Q0p p => exact .row .dd ⟨0, 0, p, 0⟩ ⟨0, 0, 0⟩ .x3z5q0p wf
  | ddX3Z5Q1p p => exact .row .dd ⟨0, 0, p, 0⟩ ⟨0, 0, 0⟩ .x3z5q1p wf
  | ddX3Z6 y n => exact .row .dd ⟨y, 0, 0, 0⟩ ⟨0, n, 0⟩ .x3z6 wf
  | ddX3Z7 y => exact .row .dd ⟨y, 0, 0, 0⟩ ⟨0, 0, 0⟩ .x3z7 wf
  | ddIdxX0Z4 d => exact .row .dd ⟨0, 0, 0, 0⟩ ⟨d, 0, 0⟩ .idxX0Z4 wf
  | ddIdxX0Z5 d => exact .row .dd ⟨0, 0, 0, 0⟩ ⟨d, 0, 0⟩ .idxX0Z5 wf
  | ddIdxX0Z6 d n => exact .row .dd ⟨0, 0, 0, 0⟩ ⟨d, n, 0⟩ .idxX0Z6 wf
  | ddIdxX1Z6 y d => exact .row .dd ⟨y, 0, 0, 0⟩ ⟨d, 0, 0⟩ .idxX1Z6 wf
  | ddIdxX1Y6 z d => exact .row .dd ⟨0, z, 0, 0⟩ ⟨d, 0, 0⟩ .idxX1Y6 wf
  | ddX1Y6Z6 => exact .row .dd ⟨0, 0, 0, 0⟩ ⟨0, 0, 0⟩ .x1y6z6 wf
  | ddIdxX2Z6 y d => exact .row .dd ⟨y, 0, 0, 0⟩ ⟨d, 0, 0⟩ .idxX2Z6 wf
  | fdX0Z0Lo y => exact .row .fd ⟨y, 0, 0, 0⟩ ⟨0, 0, 0⟩ .x0z0lo wf
  | fdX0Z0Rel y d => exact .row .fd ⟨y, 0, 0, 0⟩ ⟨d, 0, 0⟩ .x0z0rel wf
  | fdX0Z1Q0 p nn => exact .row .fd ⟨0, 0, p, 0⟩ ⟨0, 0, nn⟩ .x0z1q0 wf
  | fdX0Z1Q1 p => exact .row .fd ⟨0, 0, p, 0⟩ ⟨0, 0, 0⟩ .x0z1q1 wf
  | fdX0Z2Plo y => exact .row .fd ⟨y, 0, 0, 0⟩ ⟨0, 0, 0⟩ .x0z2plo wf
  | fdX0Z2Phi y nn => exact .row .fd ⟨y, 0, 0, 0⟩ ⟨0, 0, nn⟩ .x0z2phi wf
  | fdX0Z3 y => exact .row .fd ⟨y, 0, 0, 0⟩ ⟨0, 0, 0⟩ .x0z3 wf
  | fdX0Z4 y => exact .row .fd ⟨y, 0, 0, 0⟩ ⟨0, 0, 0⟩ .x0z4 wf
  | fdX0Z5 y => exact .row .fd ⟨y, 0, 0, 0⟩ ⟨0, 0, 0⟩ .x0z5 wf
  | fdX0Z6 y n => exact .row .fd ⟨y, 0, 0, 0⟩ ⟨0, n, 0⟩ .x0z6 wf
  | fdX0Z7 y => exact .row .fd ⟨y, 0, 0, 0⟩ ⟨0, 0, 0⟩ .x0z7 wf
  | fdX1 y z => exact .row .fd ⟨y, z, 0, 0⟩ ⟨0, 0, 0⟩ .x1 wf
  | fdX2 y z => exact .row .fd ⟨y, z, 0, 0⟩ ⟨0, 0, 0⟩ .x2 wf
  | fdX3Z0 y => exact .row .fd ⟨y, 0, 0, 0⟩ ⟨0, 0, 0⟩ .x3z0 wf
  | fdX3Z1 y => exact .row .fd ⟨y, 0, 0, 0⟩ ⟨0, 0, 0⟩ .x3z1 wf
  | fdX3Z2 y nn => exact .row .fd ⟨y, 0, 0, 0⟩ ⟨0, 0, nn⟩ .x3z2 wf
  | fdX3Z3Y0 nn => exact .row .fd ⟨0, 0, 0, 0⟩ ⟨0, 0, nn⟩ .x3z3y0 wf
  | fdX3Z3Y23 y n => exact .row .fd ⟨y, 0, 0, 0⟩ ⟨0, n, 0⟩ .x3z3y23 wf
  | fdX3Z3Yhi y => exact .row .fd ⟨y, 0, 0, 0⟩ ⟨0, 0, 0⟩ .x3z3yhi wf
  | fdX3Z4 y => exact .row .fd ⟨y, 0, 0, 0⟩ ⟨0, 0, 0⟩ .x3z4 wf
  | fdX3Z5P0 q nn => exact .row .fd ⟨0, 0, 0, q⟩ ⟨0, 0, nn⟩ .x3z5p0 wf
  | fdX3Z5Q0p p => exact .row .fd ⟨0, 0, p, 0⟩ ⟨0, 0, 0⟩ .x3z5q0p wf
  | fdX3Z5Q1p p => exact .row .fd ⟨0, 0, p, 0⟩ ⟨0, 0, 0⟩ .x3z5q1p wf
  | fdX3Z6 y n => exact .row .fd ⟨y, 0, 0, 0⟩ ⟨0, n, 0⟩ .x3z6 wf
  | fdX3Z7 y => exact .row .fd ⟨y, 0, 0, 0⟩ ⟨0, 0, 0⟩ .x3z7 wf
  | fdIdxX0Z4 d => exact .row .fd ⟨0, 0, 0, 0⟩ ⟨d, 0, 0⟩ .idxX0Z4 wf
  | fdIdxX0Z5 d => exact .row .fd ⟨0, 0, 0, 0⟩ ⟨d, 0, 0⟩ .idxX0Z5 wf
  | fdIdxX0Z6 d n => exact .row .fd ⟨0, 0, 0, 0⟩ ⟨d, n, 0⟩ .idxX0Z6 wf
  | fdIdxX1Z6 y d => exact .row .fd ⟨y, 0, 0, 0⟩ ⟨d, 0, 0⟩ .idxX1Z6 wf
  | fdIdxX1Y6 z d => exact .row .fd ⟨0, z, 0, 0⟩ ⟨d, 0, 0⟩ .idxX1Y6 wf
  | fdX1Y6Z6 => exact .row .fd ⟨0, 0, 0, 0⟩ ⟨0, 0, 0⟩ .x1y6z6 wf
  | fdIdxX2Z6 y d => exact .row .fd ⟨y, 0, 0, 0⟩ ⟨d, 0, 0⟩ .idxX2Z6 wf
  | cbAny op => exact .cb op
  | edAny op => exact .ed op
  | ddcbAny d op => exact .ddcb d op
  | fdcbAny d op => exact .fdcb d op

end Sys2Proof
end

section
/-! PROOFS. The decoder by the table against the encoder and against DECODE (R82, R197): the inputs the
dispatcher answers are rows or forms of one class, and the others are too short for a base opcode. -/

namespace Sys2Proof.Machine

/-! ### Inputs without a base opcode (R118) -/

/-- The list of 41_prefix_dispatch.md section 3. -/
inductive LacksOpcode : List Byte → Prop
  | empty : LacksOpcode []
  | lone {b0 : Byte} (prefixed : Config.isPrefixByte b0 = true) : LacksOpcode [b0]
  | two {b0 : Byte} (xy : b0 = Config.ddByte ∨ b0 = Config.fdByte) : LacksOpcode [b0, Config.cbByte]
  | three {b0 b2 : Byte} (xy : b0 = Config.ddByte ∨ b0 = Config.fdByte) : LacksOpcode [b0, Config.cbByte, b2]

theorem isPrefixByte_iff {b : Byte} : Config.isPrefixByte b = true ↔
    b = Config.cbByte ∨ b = Config.edByte ∨ b = Config.ddByte ∨ b = Config.fdByte := by
  simp only [Config.isPrefixByte, Bool.or_eq_true, beq_iff_eq]
  tauto

/-- R114 to R117: after DD or FD a second byte is the base opcode, but 0xCB calls for two more. -/
theorem lacksOpcode_or_dispatches_xy {b0 : Byte} (xy : b0 = Config.ddByte ∨ b0 = Config.fdByte) (b1 : Byte)
    (rest : List Byte) : LacksOpcode (b0 :: b1 :: rest) ∨ ∃ p, Dispatches (b0 :: b1 :: rest) p := by
  by_cases composite : b1 = Config.cbByte
  case neg => exact .inr (xy.elim (· ▸ ⟨_, .dd composite⟩) (· ▸ ⟨_, .fd composite⟩))
  subst composite
  rcases rest with _ | ⟨d, _ | ⟨b3, rest⟩⟩
  · exact .inl (.two xy)
  · exact .inl (.three xy)
  · exact .inr (xy.elim (· ▸ ⟨_, .ddcb⟩) (· ▸ ⟨_, .fdcb⟩))

theorem lacksOpcode_or_dispatches (bytes : List Byte) : LacksOpcode bytes ∨ ∃ p, Dispatches bytes p := by
  rcases bytes with _ | ⟨b0, rest⟩
  · exact .inl .empty
  by_cases prefixed : Config.isPrefixByte b0 = true
  case neg => exact .inr ⟨_, .none (Bool.eq_false_iff.mpr prefixed)⟩
  rcases rest with _ | ⟨b1, rest⟩
  · exact .inl (.lone prefixed)
  rcases isPrefixByte_iff.mp prefixed with rfl | rfl | xy
  · exact .inr ⟨_, .cb⟩
  · exact .inr ⟨_, .ed⟩
  · exact lacksOpcode_or_dispatches_xy xy b1 rest

theorem LacksOpcode.prefixDispatch_eq {bytes : List Byte} (h : LacksOpcode bytes) :
    prefixDispatch bytes = .err .truncated := by
  cases h with
  | empty => rfl
  | lone prefixed => rcases isPrefixByte_iff.mp prefixed with rfl | rfl | rfl | rfl <;> rfl
  | two xy | three xy => rcases xy with rfl | rfl <;> rfl

theorem LacksOpcode.decode_eq {bytes : List Byte} (h : LacksOpcode bytes) : decode bytes = .truncated := by
  cases h with
  | empty => rfl
  | lone prefixed => rcases isPrefixByte_iff.mp prefixed with rfl | rfl | rfl | rfl <;> rfl
  | two xy | three xy => rcases xy with rfl | rfl <;> rfl

theorem LacksOpcode.decodeBlock_eq {bytes : List Byte} (h : LacksOpcode bytes) :
    decodeBlock bytes = .err .truncated := by
  simp [decodeBlock, h.prefixDispatch_eq]

theorem prefixDispatch_truncated_iff {bytes : List Byte} :
    prefixDispatch bytes = .err .truncated ↔ LacksOpcode bytes := by
  refine ⟨fun h => (lacksOpcode_or_dispatches bytes).resolve_right ?_, LacksOpcode.prefixDispatch_eq⟩
  rintro ⟨p, dispatches⟩
  simp [prefixDispatch_eq_ok_iff.mpr dispatches] at h

/-- Settles O5: `LacksOpcode` is the list, and the dispatcher answers every other input. -/
theorem dispatcherTruncatedExactly : Obligations.DispatcherTruncatedExactly := by
  refine fun bytes => prefixDispatch_truncated_iff.trans ⟨fun h => ?_, ?_⟩
  · cases h with
    | empty => exact .inl rfl
    | lone prefixed => exact .inr (.inl ⟨_, rfl, prefixed⟩)
    | two xy => exact .inr (.inr (.inl ⟨_, rfl, xy⟩))
    | three xy => exact .inr (.inr (.inr ⟨_, _, rfl, xy⟩))
  · rintro (rfl | ⟨b0, rfl, prefixed⟩ | ⟨b0, rfl, xy⟩ | ⟨b0, b2, rfl, xy⟩)
    · exact .empty
    · exact .lone prefixed
    · exact .two xy
    · exact .three xy

/-! ### The decoder, the encoder and DECODE on one input -/

/-- Settles O27: the decoder finds the row of the base opcode and takes back its operands. -/
theorem decodeOfEncode : Obligations.DecodeOfEncode := by
  intro i rest wf
  cases rowOrAny wf with
  | row fmt f o c selected =>
    obtain ⟨-, spelled, -⟩ := instr_spec selected o
    have row := classOf_opcode selected
    obtain ⟨allowed, -⟩ := class_sound fmt _ c row
    rw [spelled, List.append_assoc, List.cons_append, decode_front allowed, decodeOp_of_class row,
      OperandForm.take_bytes, instr_fieldsOf_opcode, instr_used]
  | cb | ed | ddcb | fdcb => rfl

/-- What the decoder by the table and DECODE answer to the same bytes: an instruction with these bytes
that delivers the record, or both Truncated. -/
inductive Agree (bytes : List Byte) : Decoded → DecodeResult → Prop
  | record {i : Instr} {rest : List Byte} {r : Record} (wf : i.wf = true) (spelled : encode i ++ rest = bytes)
      (delivers : ∀ s, exec i s = .next (deliver r s)) : Agree bytes (.ok i rest) (.ok r)
  | truncated : Agree bytes .truncated (.err .truncated)

/-- The formats N and XY: SHAPE and the class of the base opcode call for the same operand bytes. -/
theorem decode_agrees_front {fmt : Format} {op : Byte} (allowed : fmt.allows op = true) (tail : List Byte) :
    Agree (fmt.front ++ op :: tail) (decode (fmt.front ++ op :: tail)) (decodeBlock (fmt.front ++ op :: tail)) := by
  obtain ⟨c, row⟩ := exists_class allowed
  obtain ⟨-, opcode, selected, sameShape⟩ := class_sound fmt op c row
  have dispatches := Format.dispatches allowed tail
  rw [decode_front allowed, decodeOp_of_class row]
  rcases c.form.bytes_or_short tail fun o => fmt.instr (fieldsOf op) o c with ⟨o, rest, rfl⟩ | ⟨short, truncated⟩
  · obtain ⟨wf, spelled, delivers⟩ := instr_spec selected o
    obtain ⟨disp, imm⟩ := c.form.fetch o op rest fmt.kind
    have present : c.form.shape.d + immBytes c.form.shape.imm ≤ (c.form.bytes o ++ rest).length := by
      rw [List.length_append, c.form.length_bytes]
      exact Nat.le_add_right _ _
    rw [c.form.take_bytes, instr_used, decodeBlock_eq_ok_of_base dispatches sameShape present, disp, imm]
    rw [opcode] at spelled delivers
    exact .record wf (by rw [spelled, List.append_assoc, List.cons_append]) delivers
  · rw [truncated, decodeBlock_eq_truncated_of_base dispatches sameShape short]
    exact .truncated

/-- R82, R197: every input, by the dispatcher's answer. -/
theorem decode_agrees (bytes : List Byte) : Agree bytes (decode bytes) (decodeBlock bytes) := by
  rcases lacksOpcode_or_dispatches bytes with lacks | ⟨p, dispatches⟩
  · rw [lacks.decode_eq, lacks.decodeBlock_eq]
    exact .truncated
  · cases dispatches with
    | none unprefixed => exact decode_agrees_front (fmt := .n) (by simp [Format.allows, unprefixed]) _
    | dd plain => exact decode_agrees_front (fmt := .dd) (by simpa [Format.allows] using plain) _
    | fd plain => exact decode_agrees_front (fmt := .fd) (by simpa [Format.allows] using plain) _
    | cb | ed | ddcb | fdcb => exact .record rfl rfl fun _ => rfl

theorem Agree.of_ok {bytes rest : List Byte} {i : Instr} {res : DecodeResult} (h : Agree bytes (.ok i rest) res) :
    i.wf = true ∧ encode i ++ rest = bytes ∧ ∃ r, res = .ok r ∧ ∀ s, exec i s = .next (deliver r s) := by
  cases h with
  | record wf spelled delivers => exact ⟨wf, spelled, _, rfl, delivers⟩

/-- Settles O28: what the decoder answers, it answers to the bytes of a well-formed instruction. -/
theorem encodeOfDecode : Obligations.EncodeOfDecode := by
  intro bytes rest i decoded
  obtain ⟨wf, spelled, -⟩ := Agree.of_ok (decoded ▸ decode_agrees bytes)
  exact ⟨wf, spelled⟩

/-- An instruction's bytes decode to the record it delivers. -/
theorem exec_of_decodeBlock_encode {i : Instr} (wf : i.wf = true) (rest : List Byte) :
    ∃ r, decodeBlock (encode i ++ rest) = .ok r ∧ ∀ s, exec i s = .next (deliver r s) := by
  obtain ⟨-, -, record⟩ := Agree.of_ok (decodeOfEncode i rest wf ▸ decode_agrees (encode i ++ rest))
  exact record

/-- A record is that of an instruction whose bytes the input begins with. -/
theorem exists_instr_of_decodeBlock {bytes : List Byte} {r : Record} (decoded : decodeBlock bytes = .ok r) :
    ∃ i rest, i.wf = true ∧ encode i ++ rest = bytes ∧ ∀ s, exec i s = .next (deliver r s) := by
  have agree := decode_agrees bytes
  rw [decoded] at agree
  generalize decode bytes = answer at agree
  cases agree with
  | record wf spelled delivers => exact ⟨_, _, wf, spelled, delivers⟩

/-! ### The length of an instruction (R60, R195) -/

theorem encode_length_mem_Icc (i : Instr) : (encode i).length ∈ Set.Icc 1 4 := by
  cases i <;> simp [encode]

/-- R195: an instruction delivers a record that counts its bytes. -/
theorem exec_delivers_length (i : Instr) :
    ∃ r, (∀ s, exec i s = .next (deliver r s)) ∧ r.length = (encode i).length := by
  cases i <;> exact ⟨_, fun _ => rfl, rfl⟩

theorem deliver_injective {q r : Record} {s : State} (h : deliver q s = deliver r s) : q = r :=
  Result.ok.inj (congrArg State.result h)

/-- A state determines the record delivered in it, so its length is that of the instruction. -/
theorem length_of_exec {i : Instr} {r : Record} {s : State} (h : exec i s = .next (deliver r s)) :
    r.length = (encode i).length := by
  obtain ⟨q, delivers, length⟩ := exec_delivers_length i
  rw [delivers s] at h
  rwa [← deliver_injective (Host.Outcome.next.inj h)]

end Sys2Proof.Machine
end

section
/-! PROOFS. One step is one DECODE of the bytes at the ports (R197, R204, R222), and what follows for the
result, the frame and the invariant. -/

namespace Sys2Proof.Machine

/-! ### One step -/

/-- Everything a step can do, by DECODE's result: deliver its record, or report Truncated. -/
theorem step_of_decodeBlock (s : State) :
    (∃ r, decodeBlock s.input = .ok r ∧ step s = .next (deliver r s)) ∨
    (decodeBlock s.input = .err .truncated ∧ step s = .next (reportTruncated s)) := by
  have agree := decode_agrees s.input
  generalize decoded : decode s.input = answer, decodeBlock s.input = result at agree ⊢
  cases agree with
  | record _ _ delivers => exact .inl ⟨_, rfl, (step_of_decode_ok decoded).trans (delivers s)⟩
  | truncated => exact .inr ⟨rfl, step_of_decode_truncated decoded⟩

theorem step_of_record {s : State} {r : Record} (h : decodeBlock s.input = .ok r) :
    step s = .next (deliver r s) := by
  rcases step_of_decodeBlock s with ⟨q, record, delivers⟩ | ⟨truncated, -⟩
  · rwa [← Result.ok.inj (record.symm.trans h)]
  · cases truncated.symm.trans h

theorem step_of_truncated {s : State} (h : decodeBlock s.input = .err .truncated) :
    step s = .next (reportTruncated s) := by
  rcases step_of_decodeBlock s with ⟨q, record, -⟩ | ⟨-, reports⟩
  · cases record.symm.trans h
  · exact reports

/-- Settles O32: either way the result left is DECODE's. -/
theorem stepIsDecode : Obligations.StepIsDecode := by
  intro s
  rcases step_of_decodeBlock s with ⟨r, record, delivers⟩ | ⟨truncated, reports⟩
  · exact ⟨_, delivers, record.symm⟩
  · exact ⟨_, reports, truncated.symm⟩

/-- Settles O30: the step's only branch for such input is `exec`. -/
theorem stepRunsTheDecodedInstruction : Obligations.StepRunsTheDecodedInstruction :=
  fun _ _ _ decoded => step_of_decode_ok decoded

/-- Settles O35: a step delivers or reports, and every instruction delivers. -/
theorem nothingStopsTheMachine : Obligations.NothingStopsTheMachine := by
  refine ⟨fun s => ?_, fun i s => ?_⟩
  · obtain ⟨t, steps, -⟩ := stepIsDecode s
    exact ⟨t, steps⟩
  · obtain ⟨r, delivers⟩ := exec_delivers i
    exact ⟨_, delivers s⟩

/-- Settles O36: the output ports are a function of DECODE's result. -/
theorem stepSamplesTheOutputPorts : Obligations.StepSamplesTheOutputPorts := by
  intro s
  obtain ⟨t, steps, result⟩ := stepIsDecode s
  exact ⟨t, steps, congrArg outputsOf result⟩

/-- Settles O37: a report changes the result alone, so the next step sees the same input and reports the
same. -/
theorem truncatedConsumesNothing : Obligations.TruncatedConsumesNothing := fun s truncated =>
  ⟨reportTruncated s, step_of_truncated truncated, rfl, rfl, fun _ => rfl, rfl, rfl,
    step_of_truncated (s := reportTruncated s) truncated⟩

/-! ### An instruction's meaning -/

/-- Settles O33: the record delivered is the one its bytes decode to. -/
theorem execIsDecodeOfTheEncoding : Obligations.ExecIsDecodeOfTheEncoding := by
  intro i s rest wf
  obtain ⟨r, decoded, delivers⟩ := exec_of_decodeBlock_encode wf rest
  obtain ⟨result, off, stream, input, -⟩ := deliver_spec r s
  refine ⟨deliver r s, delivers s, result.trans decoded.symm, ?_, fun a => by rw [stream], by rw [input, off]⟩
  rw [off, length_of_exec (delivers s)]

/-- R31, R41: `avail` counts the bytes presented. -/
theorem present_avail_toNat (s : State) :
    (present s).avail.toNat = (s.stream.bytesAt s.off Config.window).length := by
  have atMost : (s.stream.bytesAt s.off Config.window).length ≤ 4 := Memory.length_bytesAt_le _ _ _
  rw [present_avail, BitVec.toNat_ofNat]
  omega

/-- R31 (log entry 7): a wire of `win` without a byte keeps its value. -/
theorem refill_stale (old : Window) (bytes : List Byte) :
    (bytes.length < 1 → (refill old bytes).b0 = old.b0) ∧ (bytes.length < 2 → (refill old bytes).b1 = old.b1) ∧
    (bytes.length < 3 → (refill old bytes).b2 = old.b2) ∧ (bytes.length < 4 → (refill old bytes).b3 = old.b3) := by
  simp +contextual [refill, Nat.le_of_lt_succ]

/-- Settles O38: every instruction delivers, a delivery presents the stream, and presenting refills the
wires. -/
theorem execFrame : Obligations.ExecFrame := by
  intro i s t goes
  obtain ⟨r, delivers, length⟩ := exec_delivers_length i
  obtain rfl : deliver r s = t := Host.Outcome.next.inj ((delivers s).symm.trans goes)
  obtain ⟨result, off, stream, input, -⟩ := deliver_spec r s
  obtain ⟨atLeast, atMost⟩ := encode_length_mem_Icc i
  have avail : (deliver r s).avail.toNat = (s.stream.bytesAt (s.off + r.length) Config.window).length :=
    present_avail_toNat _
  refine ⟨fun a => by rw [stream], ⟨r, result, off, length ▸ atLeast, length ▸ atMost⟩, by rw [input, stream, off],
    by rw [avail, input], ?_⟩
  rw [avail, deliver_win]
  exact refill_stale _ _

end Sys2Proof.Machine
end

section
/-! PROOFS. The operand-length table outside the classes of one shape (R130, R138 to R143, R151, R154, R160
to R167): under the kind none, and under DD and FD, a base opcode takes the operands of its shape there. -/

namespace Sys2Proof.Machine

/-! ### A shape under the kind none, and under DD and FD -/

section Shapes

variable {b : Byte} {tail : List Byte} {sh : Shape}

/-- R130: `b` is a base opcode of the kind none, of this shape. -/
abbrev PlainShape (sh : Shape) (b : Byte) : Prop :=
  Config.isPrefixByte b = false ∧ shape .none (classify b) = sh

/-- R130, R115: `b` is a base opcode under DD and FD, of this shape. -/
abbrev IndexedShape (sh : Shape) (b : Byte) : Prop := b ≠ Config.cbByte ∧ shape .dd (classify b) = sh

theorem PlainShape.takesNothing (h : PlainShape ⟨0, .none⟩ b) : PlainTakesNothing b := fun _ =>
  decodeBlock_eq_ok_of_base (pre := []) (.none h.1) h.2 (Nat.zero_le _)

theorem PlainShape.takesByte (h : PlainShape ⟨0, .byte⟩ b) : PlainTakesByte b :=
  ⟨fun _ rest => decodeBlock_eq_ok_of_base (pre := []) (.none h.1) h.2 (Nat.le_add_left 1 rest.length),
    decodeBlock_eq_truncated_of_base (pre := []) (.none h.1) h.2 Nat.zero_lt_one⟩

theorem IndexedShape.decodeBlock_eq_ok (h : IndexedShape sh b) {pk : Byte × PrefixKind} (hpk : pk ∈ xyPrefixes)
    (present : sh.d + immBytes sh.imm ≤ tail.length) :
    decodeBlock (pk.1 :: b :: tail) =
      .ok ⟨pk.2, classify b, fetchDisplacement (b :: tail) ⟨pk.2, 0, none⟩ sh,
        fetchImmediate (b :: tail) ⟨pk.2, 0, none⟩ sh, recordLength 1 sh⟩ := by
  rcases List.mem_pair.mp hpk with rfl | rfl
  · exact decodeBlock_eq_ok_of_base (pre := [_]) (.dd h.1) h.2 present
  · exact decodeBlock_eq_ok_of_base (pre := [_]) (.fd h.1) h.2 present

theorem IndexedShape.decodeBlock_eq_truncated (h : IndexedShape sh b) {pk : Byte × PrefixKind}
    (hpk : pk ∈ xyPrefixes) (short : tail.length < sh.d + immBytes sh.imm) :
    decodeBlock (pk.1 :: b :: tail) = .err .truncated := by
  rcases List.mem_pair.mp hpk with rfl | rfl
  · exact decodeBlock_eq_truncated_of_base (pre := [_]) (.dd h.1) h.2 short
  · exact decodeBlock_eq_truncated_of_base (pre := [_]) (.fd h.1) h.2 short

theorem IndexedShape.takesNothing (h : IndexedShape ⟨0, .none⟩ b) : IndexedTakesNothing b := fun _ hpk _ =>
  h.decodeBlock_eq_ok hpk (Nat.zero_le _)

theorem IndexedShape.takesByte (h : IndexedShape ⟨0, .byte⟩ b) : IndexedTakesByte b := fun _ hpk =>
  ⟨fun _ rest => h.decodeBlock_eq_ok hpk (Nat.le_add_left 1 rest.length),
    h.decodeBlock_eq_truncated hpk Nat.zero_lt_one⟩

theorem IndexedShape.takesDisplacement (h : IndexedShape ⟨1, .none⟩ b) : IndexedTakesDisplacement b := fun _ hpk =>
  ⟨fun _ rest => h.decodeBlock_eq_ok hpk (Nat.le_add_left 1 rest.length),
    h.decodeBlock_eq_truncated hpk Nat.zero_lt_one⟩

end Shapes

/-! ### The classes -/

/-- Settles O9: the class has the one shape under all three kinds. -/
theorem classX3Z4TakesNothing : Obligations.ClassX3Z4TakesNothing :=
  .of_hasShape HasShape.takesNothing (by decide)

/-- R142: the shape of the class X1. -/
theorem shapes_x1 : ∀ y < 8, ∀ z < 8, PlainShape ⟨0, .none⟩ (byteXYZ 1 y z) ∧
    (y ≠ 6 → z ≠ 6 → IndexedShape ⟨0, .none⟩ (byteXYZ 1 y z)) := by decide

/-- R143: the shape of the class X2. -/
theorem shapes_x2 : ∀ y < 8, ∀ z < 8, PlainShape ⟨0, .none⟩ (byteXYZ 2 y z) ∧
    (z ≠ 6 → IndexedShape ⟨0, .none⟩ (byteXYZ 2 y z)) := by decide

/-- R138 to R140: the shapes of the classes X0Z4, X0Z5 and X0Z6. -/
theorem shapes_x0z4_x0z5_x0z6 : ∀ y < 8,
    (PlainShape ⟨0, .none⟩ (byteXYZ 0 y 4) ∧ PlainShape ⟨0, .none⟩ (byteXYZ 0 y 5) ∧
      PlainShape ⟨0, .byte⟩ (byteXYZ 0 y 6)) ∧
    (y ≠ 6 → IndexedShape ⟨0, .none⟩ (byteXYZ 0 y 4) ∧ IndexedShape ⟨0, .none⟩ (byteXYZ 0 y 5) ∧
      IndexedShape ⟨0, .byte⟩ (byteXYZ 0 y 6)) := by decide

/-- Settles O10: each byte takes the operands of its shape. -/
theorem classesBesideTheIndexedForms : Obligations.ClassesBesideTheIndexedForms := by
  refine ⟨fun y z hy hz => ?_, IndexedShape.takesNothing (by decide), fun y hy => ?_⟩
  · obtain ⟨plain1, indexed1⟩ := shapes_x1 y hy z hz
    obtain ⟨plain2, indexed2⟩ := shapes_x2 y hy z hz
    exact ⟨plain1.takesNothing, plain2.takesNothing, fun y6 z6 => (indexed1 y6 z6).takesNothing,
      fun z6 => (indexed2 z6).takesNothing⟩
  · obtain ⟨⟨plain4, plain5, plain6⟩, indexed⟩ := shapes_x0z4_x0z5_x0z6 y hy
    refine ⟨plain4.takesNothing, plain5.takesNothing, plain6.takesByte, fun y6 => ?_⟩
    obtain ⟨indexed4, indexed5, indexed6⟩ := indexed y6
    exact ⟨indexed4.takesNothing, indexed5.takesNothing, indexed6.takesByte⟩

/-- R160 to R167: every indexed form but 0x36 has a displacement and nothing else. -/
theorem indexedShape_of_idx : ∀ b : Byte, idx (classify b) = true → b ≠ 0x36#8 → IndexedShape ⟨1, .none⟩ b := by
  decide

/-- Settles O11: the displacement, and after 0x36 the Byte, stand behind the base opcode or are missing. -/
theorem indexedFormsTakeADisplacement : Obligations.IndexedFormsTakeADisplacement := by
  have both : IndexedShape ⟨1, .byte⟩ 0x36#8 := by decide
  exact ⟨by decide, fun b indexed b36 => (indexedShape_of_idx b indexed b36).takesDisplacement, fun _ hpk =>
    ⟨fun _ _ rest => both.decodeBlock_eq_ok hpk (Nat.le_add_left 2 rest.length),
      fun _ => both.decodeBlock_eq_truncated hpk Nat.one_lt_two,
      both.decodeBlock_eq_truncated hpk Nat.zero_lt_two⟩⟩

/-- R154: under DD and FD the values 0xDD, 0xED and 0xFD are base opcodes that take nothing. -/
theorem indexedShape_x3z5q1p : ∀ b ∈ [0xDD#8, 0xED#8, 0xFD#8], IndexedShape ⟨0, .none⟩ b := by decide

/-- R72, R111: a base opcode of kind none selects no other format. -/
theorem Dispatches.base_unprefixed {bytes : List Byte} {p : PrefixOut} {b : Byte} (h : Dispatches bytes p)
    (kind : p.kind = .none) (base : bytes[p.bi]? = some b) : Config.isPrefixByte b = false := by
  cases h with
  | none unprefixed =>
    cases base
    exact unprefixed
  | _ => cases kind

/-- Settles O54: the class by evaluation; as base opcodes its bytes take nothing, and standing first they
select another kind. -/
theorem classX3Z5Q1PUnderDdAndFd : Obligations.ClassX3Z5Q1PUnderDdAndFd := by
  refine ⟨by decide, fun b listed => ⟨(indexedShape_x3z5q1p b listed).takesNothing, fun rest r decoded kind => ?_⟩⟩
  have prefixed : ∀ b ∈ [0xDD#8, 0xED#8, 0xFD#8], Config.isPrefixByte b = true := by decide
  obtain ⟨p, c, dispatched, -, assembled⟩ := decodeBlock_eq_ok_iff.mp decoded
  obtain ⟨-, rfl⟩ := assemble_eq_ok_iff.mp assembled
  have dispatches := Dispatches.of_prefixDispatch dispatched
  replace kind : p.kind = .none := kind
  have first : (b :: rest)[p.bi]? = some b := by
    rw [dispatches.bi_eq, kind]
    rfl
  cases (prefixed b listed).symm.trans (dispatches.base_unprefixed kind first)

/-- Settles O13, by evaluation over the 256 bytes. -/
theorem shapeCounts : Obligations.ShapeCounts := by
  unfold Obligations.ShapeCounts
  decide +kernel

/-- Settles O14, by evaluation over the 256 bytes. -/
theorem tableRowsAreDisjointAndCover : Obligations.TableRowsAreDisjointAndCover := by
  unfold Obligations.TableRowsAreDisjointAndCover
  decide

end Sys2Proof.Machine
end

section
/-! PROOFS. Records of DECODE: their own bytes (R199), the first two of them (R68), the causes of Truncated
(R211), and the invariants of R30. -/

namespace Sys2Proof.Machine

/-! ### A record and its own bytes -/

/-- R199: the bytes a record counts give it again, whatever follows them. -/
theorem decodeBlock_take_append {bytes : List Byte} {r : Record} (decoded : decodeBlock bytes = .ok r)
    (rest : List Byte) : decodeBlock (bytes.take r.length ++ rest) = .ok r := by
  obtain ⟨i, after, wf, rfl, delivers⟩ := exists_instr_of_decodeBlock decoded
  obtain ⟨q, again, deliversAgain⟩ := exec_of_decodeBlock_encode wf rest
  have same : q = r := by
    have := (deliversAgain State.reset).symm.trans (delivers State.reset)
    exact deliver_injective (Host.Outcome.next.inj this)
  rw [length_of_exec (delivers State.reset), List.take_left, again, same]

/-- Settles O18: a record's own bytes are an instruction's, and the decoder does not look behind them. -/
theorem recordDependsOnItsOwnBytes : Obligations.RecordDependsOnItsOwnBytes :=
  fun _ rest _ decoded => decodeBlock_take_append decoded rest

/-- R223: bytes after those of a record change nothing. -/
theorem decodeBlock_append {bytes : List Byte} {r : Record} (decoded : decodeBlock bytes = .ok r)
    (more : List Byte) : decodeBlock (bytes ++ more) = .ok r := by
  rw [← List.take_append_drop r.length bytes, List.append_assoc]
  exact decodeBlock_take_append decoded _

/-- Settles O21: a record of the longer input no longer than the shorter one would be the shorter one's. -/
theorem extendingATruncatedInput : Obligations.ExtendingATruncatedInput := by
  refine ⟨fun bytes more r decoded => decodeBlock_append decoded more, fun bytes more truncated four => ?_⟩
  obtain ⟨r, decoded⟩ := exists_record_of_four_le four
  refine ⟨r, decoded, Nat.lt_of_not_le fun fits => ?_⟩
  have own := decodeBlock_take_append decoded (bytes.drop r.length)
  rw [List.take_append_of_le_length fits, List.take_append_drop, truncated] at own
  cases own

/-! ### The first two bytes (R68) -/

/-- R111 to R117: the kind as a function of the first two bytes. -/
def kindOfHead (head : List Byte) : PrefixKind :=
  if head[0]? = some Config.cbByte then .cb
  else if head[0]? = some Config.edByte then .ed
  else if head[0]? = some Config.ddByte then if head[1]? = some Config.cbByte then .ddcb else .dd
  else if head[0]? = some Config.fdByte then if head[1]? = some Config.cbByte then .fdcb else .fd
  else .none

theorem Dispatches.kind_eq {bytes : List Byte} {p : PrefixOut} (h : Dispatches bytes p) :
    p.kind = kindOfHead (bytes.take 2) := by
  cases h with
  | none unprefixed => simp_all [kindOfHead, Config.isPrefixByte]
  | dd plain => exact (if_neg (mt Option.some.inj plain)).symm
  | fd plain => exact (if_neg (mt Option.some.inj plain)).symm
  | _ => rfl

/-- R190: the length is that of the kind and, where the kind's shape depends on it, of the base opcode. -/
theorem exists_base_of_decodeBlock {bytes : List Byte} {r : Record} (decoded : decodeBlock bytes = .ok r) :
    ∃ p b, Dispatches bytes p ∧ bytes[p.bi]? = some b ∧ r.prefixKind = p.kind ∧ r.opcode = classify b ∧
      r.length = recordLength (baseIndexOf p.kind) (shape p.kind (classify b)) := by
  obtain ⟨p, b, dispatched, base, assembled⟩ := decodeBlock_eq_ok_iff.mp decoded
  obtain ⟨-, rfl⟩ := assemble_eq_ok_iff.mp assembled
  have dispatches := Dispatches.of_prefixDispatch dispatched
  exact ⟨p, b, dispatches, base, rfl, rfl, by rw [dispatches.bi_eq]⟩

/-- R172: a base opcode that stands fourth takes no operand, whatever it is. -/
theorem shape_eq_of_base_late {k : PrefixKind} (late : ¬ baseIndexOf k < 2) (f g : OpcodeByte) :
    shape k f = shape k g := by
  cases k with
  | ddcb | fdcb => rfl
  | _ => simp [baseIndexOf] at late

/-- Settles O19: the kind is a function of the two bytes, and the base opcode is one of them unless the
kind's shape does not depend on it. -/
theorem lengthIsFixedByTwoBytes : Obligations.LengthIsFixedByTwoBytes := by
  intro a b r q same decodedA decodedB
  obtain ⟨p, c, dispatchesA, baseA, kindA, -, lengthA⟩ := exists_base_of_decodeBlock decodedA
  obtain ⟨p', c', dispatchesB, baseB, kindB, -, lengthB⟩ := exists_base_of_decodeBlock decodedB
  have kind : p.kind = p'.kind := by rw [dispatchesA.kind_eq, dispatchesB.kind_eq, same]
  refine ⟨?_, by rw [kindA, kindB, kind]⟩
  rw [lengthA, lengthB, ← kind]
  by_cases early : baseIndexOf p.kind < 2
  · have base : a[baseIndexOf p.kind]? = b[baseIndexOf p.kind]? := by
      rw [← List.getElem?_take_of_lt early, same, List.getElem?_take_of_lt early]
    rw [← dispatchesA.bi_eq, baseA, dispatchesA.bi_eq, kind, ← dispatchesB.bi_eq, baseB] at base
    rw [Option.some.inj base]
  · rw [shape_eq_of_base_late early]

/-! ### The causes of Truncated (R211) -/

/-- How many operand bytes a shape calls for. -/
def operandBytes (sh : Shape) : Nat := sh.d + immBytes sh.imm

theorem decodeBlock_truncated_iff_of_base {pre tail : List Byte} {b : Byte} {k : PrefixKind} {pd : Option Int}
    (h : Dispatches (pre ++ b :: tail) ⟨k, pre.length, pd⟩) :
    decodeBlock (pre ++ b :: tail) = .err .truncated ↔ tail.length < operandBytes (shape k (classify b)) := by
  refine ⟨fun truncated => Nat.lt_of_not_le fun present => ?_, decodeBlock_eq_truncated_of_base h rfl⟩
  cases truncated.symm.trans (decodeBlock_eq_ok_of_base h rfl present)

theorem truncated_plain_iff {b : Byte} (unprefixed : Config.isPrefixByte b = false) (tail : List Byte) :
    decodeBlock (b :: tail) = .err .truncated ↔ tail.length < operandBytes (shape .none (classify b)) :=
  decodeBlock_truncated_iff_of_base (pre := []) (.none unprefixed)

theorem not_truncated_cb_ed {b0 : Byte} (cbOrEd : b0 = 0xCB#8 ∨ b0 = 0xED#8) (b1 : Byte)
    (tail : List Byte) : decodeBlock (b0 :: b1 :: tail) ≠ .err .truncated := by
  rcases cbOrEd with rfl | rfl <;> exact nofun

theorem truncated_composite_iff {b0 : Byte} (xy : b0 = 0xDD#8 ∨ b0 = 0xFD#8) (tail : List Byte) :
    decodeBlock (b0 :: 0xCB#8 :: tail) = .err .truncated ↔ tail.length < 2 := by
  rcases tail with _ | ⟨d, _ | ⟨b3, tail⟩⟩
  · exact iff_of_true (LacksOpcode.two xy).decodeBlock_eq Nat.zero_lt_two
  · exact iff_of_true (LacksOpcode.three xy).decodeBlock_eq Nat.one_lt_two
  · refine iff_of_false ?_ (by simp)
    rcases xy with rfl | rfl <;> exact nofun

theorem truncated_indexed_iff {b0 b1 : Byte} (xy : b0 = 0xDD#8 ∨ b0 = 0xFD#8) (plain : b1 ≠ 0xCB#8)
    (tail : List Byte) :
    decodeBlock (b0 :: b1 :: tail) = .err .truncated ↔ tail.length < operandBytes (shape .dd (classify b1)) := by
  rcases xy with rfl | rfl
  · exact decodeBlock_truncated_iff_of_base (pre := [_]) (.dd plain)
  · exact decodeBlock_truncated_iff_of_base (k := .fd) (pre := [_]) (.fd plain)

/-- R131 to R156: the shapes of the kind none, by the bytes they call for. -/
theorem operandBytes_plain : ∀ b : Byte,
    (0 < operandBytes (shape .none (classify b)) ↔ shape .none (classify b) ≠ ⟨0, .none⟩) ∧
    (1 < operandBytes (shape .none (classify b)) ↔ shape .none (classify b) = ⟨0, .word⟩) ∧
    ¬ 2 < operandBytes (shape .none (classify b)) := by decide

theorem operandBytes_indexed : ∀ b : Byte,
    (0 < operandBytes (shape .dd (classify b)) ↔ shape .dd (classify b) ≠ ⟨0, .none⟩) ∧
    (1 < operandBytes (shape .dd (classify b)) ↔
      shape .dd (classify b) = ⟨0, .word⟩ ∨ shape .dd (classify b) = ⟨1, .byte⟩) := by decide

/-- R72: the first byte is a base opcode, or selects CB or ED, or selects DD or FD. -/
theorem first_byte_cases : ∀ b : Byte,
    (Config.isPrefixByte b = false ∧ ¬ (b = 0xDD#8 ∨ b = 0xFD#8)) ∨
    ((b = 0xCB#8 ∨ b = 0xED#8) ∧ Config.isPrefixByte b = true ∧ ¬ (b = 0xDD#8 ∨ b = 0xFD#8)) ∨
    ((b = 0xDD#8 ∨ b = 0xFD#8) ∧ Config.isPrefixByte b = true) := by
  decide

/-- Settles O20: by the number of bytes, and then by what the first byte selects. -/
theorem truncatedExactlyWhenBytesAreMissing : Obligations.TruncatedExactlyWhenBytesAreMissing := by
  refine ⟨LacksOpcode.empty.decodeBlock_eq, fun b0 => ?_, fun b0 b1 => ?_, fun b0 b1 b2 => ?_, fun bytes four => ?_⟩
  · by_cases prefixed : Config.isPrefixByte b0 = true
    · exact iff_of_true (LacksOpcode.lone prefixed).decodeBlock_eq (.inl prefixed)
    · simp [truncated_plain_iff (Bool.eq_false_iff.mpr prefixed), prefixed, operandBytes_plain]
  · rcases first_byte_cases b0 with ⟨unprefixed, notXy⟩ | ⟨cbOrEd, prefixed, notXy⟩ | ⟨xy, prefixed⟩
    · simp only [truncated_plain_iff unprefixed, unprefixed, notXy, false_and, false_or, true_and]
      exact (operandBytes_plain b0).2.1
    · simp only [not_truncated_cb_ed cbOrEd, notXy, prefixed, false_and, or_false, Bool.true_eq_false]
    · by_cases composite : b1 = 0xCB#8
      · subst composite
        exact iff_of_true ((truncated_composite_iff xy []).mpr Nat.zero_lt_two) (.inl ⟨xy, .inl rfl⟩)
      · simp only [truncated_indexed_iff xy composite, xy, composite, prefixed, true_and, false_or, false_and,
          or_false, Bool.true_eq_false]
        exact (operandBytes_indexed b1).1
  · rcases first_byte_cases b0 with ⟨unprefixed, notXy⟩ | ⟨cbOrEd, prefixed, notXy⟩ | ⟨xy, prefixed⟩
    · simp only [truncated_plain_iff unprefixed, notXy, false_and, iff_false]
      exact (operandBytes_plain b0).2.2
    · simp only [not_truncated_cb_ed cbOrEd, notXy, false_and]
    · by_cases composite : b1 = 0xCB#8
      · subst composite
        exact iff_of_true ((truncated_composite_iff xy [b2]).mpr Nat.one_lt_two) ⟨xy, .inl rfl⟩
      · simp only [truncated_indexed_iff xy composite, xy, composite, true_and, false_or]
        exact (operandBytes_indexed b1).2
  · obtain ⟨r, decoded⟩ := exists_record_of_four_le four
    simp [decoded]

/-! ### The invariants of a record (R30) -/

theorem opcodeSound_classify (b : Byte) : OpcodeSound (classify b) := by
  have hb := b.isLt
  simp only [OpcodeSound, classify, fieldX_toNat, fieldY_toNat, fieldZ_toNat, fieldP_toNat, fieldQ_toNat,
    Nat.shiftRight_eq_div_pow]
  omega

/-- R30 (b): a composite kind has the dispatcher's displacement, another kind that of its shape. -/
theorem Dispatches.hasDisplacement_eq {bytes : List Byte} {p : PrefixOut} (h : Dispatches bytes p)
    (f : OpcodeByte) : hasDisplacement p.kind f = (p.pd.isSome || (shape p.kind f).d == 1) := by
  cases h <;> rfl

/-- R192: the displacement is there exactly when the kind or the shape has one. -/
theorem Dispatches.isSome_fetchDisplacement {bytes : List Byte} {p : PrefixOut} {f : OpcodeByte}
    (h : Dispatches bytes p) (present : recordLength p.bi (shape p.kind f) ≤ bytes.length) :
    (fetchDisplacement bytes p (shape p.kind f)).isSome = hasDisplacement p.kind f := by
  by_cases after : (shape p.kind f).d = 1
  · have inside : p.bi + 1 < bytes.length := by
      simp only [recordLength, after] at present
      omega
    simp [fetchDisplacement, h.hasDisplacement_eq, after, inside]
  · simp [fetchDisplacement, h.hasDisplacement_eq, after]

/-- R193: the immediate has the tag of the shape. -/
theorem immTag_fetchImmediate {bytes : List Byte} {p : PrefixOut} {sh : Shape}
    (present : recordLength p.bi sh ≤ bytes.length) : immTag (fetchImmediate bytes p sh) = sh.imm := by
  cases imm : sh.imm with
  | none => simp [fetchImmediate, imm, immTag]
  | byte =>
    have inside : p.bi + 1 + sh.d < bytes.length := by
      simp only [recordLength, imm, immBytes] at present
      omega
    simp [fetchImmediate, imm, immTag, inside]
  | word =>
    have inside : p.bi + 1 + sh.d + 1 < bytes.length := by
      simp only [recordLength, imm, immBytes] at present
      omega
    simp [fetchImmediate, imm, immTag, inside, Nat.lt_of_succ_lt inside]

theorem recordSound_of_decodeBlock {bytes : List Byte} {r : Record} (decoded : decodeBlock bytes = .ok r) :
    RecordSound r := by
  obtain ⟨p, b, dispatched, base, assembled⟩ := decodeBlock_eq_ok_iff.mp decoded
  obtain ⟨present, rfl⟩ := assemble_eq_ok_iff.mp assembled
  have dispatches := Dispatches.of_prefixDispatch dispatched
  refine
    { opcode := opcodeSound_classify b
      dispPresence := dispatches.isSome_fetchDisplacement present
      dispRange := fun d hd => ?_
      immKind := immTag_fetchImmediate present
      lengthIs := congrArg (recordLength · _) dispatches.bi_eq
      lengthRange := ⟨?_, ?_⟩
      rawUnprefixed := fun kind => dispatches.base_unprefixed kind base
      rawIndexed := fun kind => opcode_raw_ne_cb decoded (.inr kind) }
  · obtain ⟨c, rfl, -⟩ := dispatches.displacement_byte hd
    exact sext8_mem_Icc c
  · simp only [recordLength]
    omega
  · rw [dispatches.bi_eq]
    exact recordLength_le_four p.kind (classify b)

/-- Settles O22: the invariants field by field, as assembled. -/
theorem recordsMeetTheirInvariants : Obligations.RecordsMeetTheirInvariants :=
  fun _ _ => recordSound_of_decodeBlock

/-- Settles O24: after DD and FD the three bytes are base opcodes that take nothing, and a record's opcode
is the byte the dispatcher's index names. -/
theorem noPrefixChains : Obligations.NoPrefixChains := by
  refine ⟨fun pk hpk b listed => (indexedShape_x3z5q1p b listed).takesNothing pk hpk, fun bytes r decoded => ?_⟩
  obtain ⟨p, b, dispatches, base, kind, opcode, -⟩ := exists_base_of_decodeBlock decoded
  exact ⟨b, by rw [kind, ← dispatches.bi_eq, base], opcode⟩

/-- Settles O25 -/
theorem staleInputBytesAreIgnored : Obligations.StaleInputBytesAreIgnored := by
  refine ⟨fun v w avail same => congrArg (fun bytes => outputsOf (decodeBlock bytes)) same, fun w avail four => ?_,
    fun _ _ _ _ _ _ _ => ⟨rfl, rfl, rfl, rfl⟩, fun _ => rfl⟩
  have same : min avail.toNat Config.window = Config.window := Nat.min_eq_right four
  rw [evalPorts, inputBytes, same]
  rfl

/-- R32, 92 D3: the codes of the kinds. -/
theorem prefixCodeOf_eq_iff (k : PrefixKind) :
    (prefixCodeOf k = 0 ↔ k = .none) ∧ (prefixCodeOf k = 1 ↔ k = .cb) ∧ (prefixCodeOf k = 2 ↔ k = .dd) ∧
    (prefixCodeOf k = 3 ↔ k = .ed) ∧ (prefixCodeOf k = 4 ↔ k = .fd) ∧ (prefixCodeOf k = 5 ↔ k = .ddcb) ∧
    (prefixCodeOf k = 6 ↔ k = .fdcb) ∧ prefixCodeOf k ≠ 7 := by
  cases k <;> decide

/-- R32: a slice of the opcode byte is the field of the same bits. -/
theorem extractLsb'_toNat_eq_extractBits (b : Byte) (low high : Nat) (h : low ≤ high ∧ high ≤ 7) :
    (b.extractLsb' low (high - low + 1)).toNat = (extractBits b low high h).toNat := by
  rw [BitVec.extractLsb'_toNat, extractBits_toNat]

/-- R32: the five slices of a classified byte are its fields. -/
theorem slices_of_eq_classify {f : OpcodeByte} {b : Byte} (h : f = classify b) :
    (f.raw.extractLsb' 6 2).toNat = f.x.toNat ∧ (f.raw.extractLsb' 3 3).toNat = f.y.toNat ∧
    (f.raw.extractLsb' 0 3).toNat = f.z.toNat ∧ (f.raw.extractLsb' 4 2).toNat = f.p.toNat ∧
    (f.raw.extractLsb' 3 1).toNat = f.q.toNat := by
  subst h
  exact ⟨extractLsb'_toNat_eq_extractBits b 6 7 (by decide), extractLsb'_toNat_eq_extractBits b 3 5 (by decide),
    extractLsb'_toNat_eq_extractBits b 0 2 (by decide), extractLsb'_toNat_eq_extractBits b 4 5 (by decide),
    extractLsb'_toNat_eq_extractBits b 3 3 (by decide)⟩

/-- R32, R71: a displacement is read back from its eight wires. -/
theorem displacement_of_ports {disp : Option Int} (range : ∀ d, disp = some d → -128 ≤ d ∧ d ≤ 127) :
    disp = if dispPresentOf disp = 1 then some (dispOf disp).toInt else none := by
  cases disp with
  | none => rfl
  | some d =>
    obtain ⟨lower, upper⟩ := range d rfl
    have : (BitVec.ofInt 8 d).toInt = d := by
      rw [BitVec.toInt_ofInt, Int.bmod_def]
      omega
    simp [dispPresentOf, dispOf, this]

/-- R32, 92 D4, D5: the immediate is read back from its kind and its sixteen wires. -/
theorem immediate_of_ports (imm : Option Immediate) :
    immKindOf imm ≠ 3 ∧ (immKindOf imm = 0 → imm = none ∧ immOf imm = 0) ∧
    (immKindOf imm = 1 → ∃ n : Byte, imm = some (.byte n) ∧ (immOf imm).toNat = n.toNat) ∧
    (immKindOf imm = 2 → imm = some (.word (immOf imm))) := by
  rcases imm with _ | ⟨n | nn⟩
  · simp [immKindOf, immOf]
  · have fits : n.toNat < 65536 := n.isLt.trans (by decide)
    simp [immKindOf, immOf, fits]
  · simp [immKindOf, immOf]

theorem dispOf_eq_zero_of_absent {disp : Option Int} (absent : dispPresentOf disp = 0) : dispOf disp = 0 := by
  cases disp with
  | none => rfl
  | some d => cases absent

/-- R32: three wires are enough for the length. -/
theorem length_toNat_of_ports {len : Nat} (atMost : len ≤ 4) : (BitVec.ofNat 3 len).toNat = len := by
  rw [BitVec.toNat_ofNat]
  omega

/-- Settles O26: port by port. -/
theorem outputPortsCarryTheResult : Obligations.OutputPortsCarryTheResult := by
  intro w avail
  refine ⟨fun r decoded => ?_, fun truncated => by rw [evalPorts, truncated]; rfl⟩
  have sound := recordSound_of_decodeBlock decoded
  obtain ⟨-, b, -, -, -, opcode, -⟩ := exists_base_of_decodeBlock decoded
  obtain ⟨none, cb, dd, ed, fd, ddcb, fdcb, seven⟩ := prefixCodeOf_eq_iff r.prefixKind
  obtain ⟨three, absent, byte, word⟩ := immediate_of_ports r.immediate
  obtain ⟨x, y, z, p, q⟩ := slices_of_eq_classify opcode
  rw [evalPorts, decoded]
  exact ⟨rfl, none, cb, dd, ed, fd, ddcb, fdcb, seven, rfl, x, y, z, p, q,
    displacement_of_ports sound.dispRange, dispOf_eq_zero_of_absent, three, absent, byte, word,
    length_toNat_of_ports sound.lengthRange.2⟩

end Sys2Proof.Machine
end

section
/-! PROOFS. The caller's stream as the ports show it (R31, R40, R41): reading a run of bytes, a stream that
is a sequence, and the remaining bytes. -/

namespace Sys2Proof.Machine

/-! ### A run of bytes -/

theorem Memory.isSome_read_iff {m : Memory} {a : Nat} : (m.read a).isSome ↔ a ∈ m.map Prod.fst := by
  induction m with
  | nil => simp
  | cons c m ih =>
    obtain ⟨k, b⟩ := c
    rw [Memory.read_cons]
    by_cases here : k = a
    · simp [here]
    · simp [here, Ne.symm here, ih]

theorem Memory.bytesAt_of_read_none {m : Memory} {a : Nat} (ends : m.read a = none) (k : Nat) :
    m.bytesAt a k = [] := by
  cases k <;> simp [Memory.bytesAt, ends]

/-- A run that the stream holds is shown first, and then what follows it. -/
theorem Memory.bytesAt_append {m : Memory} {a : Nat} {bytes : List Byte}
    (reads : ∀ i < bytes.length, m.read (a + i) = bytes[i]?) (k : Nat) :
    m.bytesAt a (bytes.length + k) = bytes ++ m.bytesAt (a + bytes.length) k := by
  induction bytes generalizing a with
  | nil => simp
  | cons b bytes ih =>
    have first : m.read a = some b := reads 0 (Nat.succ_pos _)
    have later : ∀ i < bytes.length, m.read (a + 1 + i) = bytes[i]? := fun i hi => by
      rw [Nat.add_assoc, Nat.add_comm 1 i]
      exact reads (i + 1) (Nat.succ_lt_succ hi)
    rw [List.length_cons, Nat.add_right_comm, Memory.bytesAt, first]
    simp only [ih later, List.cons_append, Nat.add_right_comm a 1, Nat.add_assoc a]

/-- A run that the stream holds and that ends there is all that is shown. -/
theorem Memory.bytesAt_eq_take {m : Memory} {a : Nat} {bytes : List Byte}
    (reads : ∀ i < bytes.length, m.read (a + i) = bytes[i]?) (ends : m.read (a + bytes.length) = none) (k : Nat) :
    m.bytesAt a k = bytes.take k := by
  rw [← Memory.take_bytesAt m a k (bytes.length + k) (Nat.le_add_left k _), Memory.bytesAt_append reads,
    Memory.bytesAt_of_read_none ends, List.append_nil]

theorem Memory.read_of_bytesAt (m : Memory) (a k : Nat) :
    ∀ i < (m.bytesAt a k).length, m.read (a + i) = (m.bytesAt a k)[i]? := fun i hi => by
  rw [List.getElem?_eq_getElem hi]
  exact Memory.getElem_bytesAt (List.getElem?_eq_getElem hi)

theorem Memory.isSome_read_of_bytesAt {m : Memory} {a k i : Nat} (h : i < (m.bytesAt a k).length) :
    (m.read (a + i)).isSome := by
  rw [Memory.read_of_bytesAt m a k i h, List.getElem?_eq_getElem h]
  rfl

theorem Memory.bytesAt_full_or_ends (m : Memory) (a k : Nat) :
    (m.bytesAt a k).length = k ∨ m.read (a + (m.bytesAt a k).length) = none := by
  induction k generalizing a with
  | zero => exact .inl rfl
  | succ k ih =>
    simp only [Memory.bytesAt]
    cases here : m.read a with
    | none => exact .inr here
    | some b =>
      refine (ih (a + 1)).imp (congrArg (· + 1)) fun ends => ?_
      rwa [List.length_cons, Nat.add_comm _ 1, ← Nat.add_assoc]

theorem Memory.drop_bytesAt {m : Memory} {a j k : Nat} (h : j ≤ (m.bytesAt a (j + k)).length) :
    (m.bytesAt a (j + k)).drop j = m.bytesAt (a + j) k := by
  have front := Memory.take_bytesAt m a j (j + k) (Nat.le_add_right j k)
  have length : (m.bytesAt a j).length = j := by rw [← front, List.length_take_of_le h]
  have split := Memory.bytesAt_append (Memory.read_of_bytesAt m a j) k
  rw [length] at split
  rw [split, List.drop_left' length]

/-- A run has distinct addresses, so it is no longer than the stream. -/
theorem Memory.length_bytesAt_le_length (m : Memory) (a k : Nat) : (m.bytesAt a k).length ≤ m.length := by
  have listed : List.range' a (m.bytesAt a k).length ⊆ m.map Prod.fst := fun c hc => by
    obtain ⟨i, hi, rfl⟩ := List.mem_range'.mp hc
    rw [Nat.one_mul, ← Memory.isSome_read_iff]
    exact Memory.isSome_read_of_bytesAt hi
  simpa using (List.subperm_of_subset List.nodup_range' listed).length_le

/-- More bytes asked for than the stream has show no more. -/
theorem Memory.bytesAt_of_length_le {m : Memory} {k : Nat} (a : Nat) (h : m.length ≤ k) :
    m.bytesAt a k = m.bytesAt a m.length := by
  rw [← Memory.take_bytesAt m a m.length k h, List.take_of_length_le (Memory.length_bytesAt_le_length m a k)]

/-! ### The remaining bytes -/

theorem remaining_eq (s : State) {k : Nat} (h : s.stream.length ≤ k) : s.remaining = s.stream.bytesAt s.off k :=
  (Memory.bytesAt_of_length_le s.off h).symm

/-- R31: under the invariant the ports show the first four of the remaining bytes. -/
theorem MachineInv.input_eq {s : State} (inv : MachineInv s) : s.input = s.remaining.take Config.window := by
  rw [inv.ports.2, remaining_eq s (Nat.le_add_left _ Config.window),
    Memory.take_bytesAt _ _ _ _ (Nat.le_add_right _ _)]

/-- R204: after a record the remaining bytes are those behind it. -/
theorem remaining_deliver {r : Record} {s : State} (h : r.length ≤ s.remaining.length) :
    (deliver r s).remaining = s.remaining.drop r.length := by
  rw [remaining_eq s (Nat.le_add_left _ r.length)] at h ⊢
  exact (Memory.drop_bytesAt h).symm

/-- R198: DECODE looks at no byte beyond the fourth. -/
theorem decodeBlock_take_window (bytes : List Byte) : decodeBlock (bytes.take Config.window) = decodeBlock bytes := by
  rcases Nat.le_total bytes.length Config.window with short | long
  · rw [List.take_of_length_le short]
  · obtain ⟨r, decoded⟩ := exists_record_of_four_le (bytes := bytes.take Config.window)
      (by rw [List.length_take_of_le long]; exact Nat.le_refl 4)
    have whole := decodeBlock_append decoded (bytes.drop Config.window)
    rw [List.take_append_drop] at whole
    rw [decoded, whole]

theorem MachineInv.decodeBlock_input {s : State} (inv : MachineInv s) :
    decodeBlock s.input = decodeBlock s.remaining := by
  rw [inv.input_eq, decodeBlock_take_window]

/-! ### A stream that is a sequence (R40) -/

theorem Memory.write_eq_append {m : Memory} {a : Nat} (above : ∀ k ∈ m.map Prod.fst, k < a) (b : Byte) :
    m.write a b = m ++ [(a, b)] := by
  induction m with
  | nil => rfl
  | cons c m ih =>
    obtain ⟨k, x⟩ := c
    rw [List.map_cons, List.forall_mem_cons] at above
    obtain ⟨first, rest⟩ := above
    rw [Memory.write, if_neg (by simpa using Nat.le_of_lt first), if_neg (Nat.ne_of_gt first), ih rest]
    rfl

theorem Memory.isSequence.map_fst {m : Memory} (h : m.isSequence) : m.map Prod.fst = List.range m.length := h

theorem Memory.isSequence.write_end {m : Memory} (h : m.isSequence) (b : Byte) :
    (m.write m.length b).isSequence ∧ (m.write m.length b).length = m.length + 1 := by
  rw [Memory.write_eq_append fun k hk => List.mem_range.mp (h ▸ hk)]
  simp [Memory.isSequence, List.range_succ, h.map_fst]

theorem Memory.isSequence.writeBytes_end {m : Memory} (h : m.isSequence) (bytes : List Byte) :
    (m.writeBytes m.length bytes).isSequence ∧
      (m.writeBytes m.length bytes).length = m.length + bytes.length := by
  induction bytes generalizing m with
  | nil => exact ⟨h, rfl⟩
  | cons b bytes ih =>
    obtain ⟨sequence, length⟩ := h.write_end b
    have step := ih sequence
    rw [length] at step
    exact ⟨step.1, step.2.trans (by rw [List.length_cons]; omega)⟩

theorem Memory.ofBytes_isSequence (bytes : List Byte) :
    (Memory.ofBytes bytes).isSequence ∧ (Memory.ofBytes bytes).length = bytes.length := by
  obtain ⟨sequence, length⟩ := Memory.isSequence.writeBytes_end (m := []) rfl bytes
  exact ⟨sequence, length.trans (Nat.zero_add _)⟩

theorem Memory.isSequence.isSome_read_iff {m : Memory} (h : m.isSequence) {a : Nat} :
    (m.read a).isSome ↔ a < m.length := by
  rw [Memory.isSome_read_iff, h.map_fst, List.mem_range]

theorem Memory.isSequence.read_eq_none {m : Memory} (h : m.isSequence) {a : Nat} (beyond : m.length ≤ a) :
    m.read a = none := by
  rw [← Option.not_isSome_iff_eq_none, h.isSome_read_iff]
  exact Nat.not_lt.mpr beyond

theorem Memory.endAddr_le_iff {m : Memory} {n : Nat} : m.endAddr ≤ n ↔ ∀ k ∈ m.map Prod.fst, k < n := by
  induction m with
  | nil => simp [Memory.endAddr]
  | cons c m ih => simp only [Memory.endAddr, Nat.max_le, ih, List.map_cons, List.forall_mem_cons, Nat.succ_le_iff]

theorem Memory.isSequence.endAddr_eq {m : Memory} (h : m.isSequence) : m.endAddr = m.length :=
  eq_of_forall_ge_iff fun n => by
    rw [Memory.endAddr_le_iff, h.map_fst]
    simp only [List.mem_range]
    exact ⟨fun below => Nat.le_of_not_lt fun lt => Nat.lt_irrefl n (below n lt), fun le k hk => hk.trans_le le⟩

/-- R41: of a sequence all bytes from the offset on remain. -/
theorem off_add_length_remaining {s : State} (h : s.stream.isSequence) (inside : s.off ≤ s.stream.length) :
    s.off + s.remaining.length = s.stream.length := by
  refine Nat.le_antisymm ?_ ?_
  · cases some : s.remaining.length with
    | zero => exact inside
    | succ n =>
      have last : n < s.remaining.length := some ▸ Nat.lt_succ_self n
      exact h.isSome_read_iff.mp (Memory.isSome_read_of_bytesAt last)
  · rcases Memory.bytesAt_full_or_ends s.stream s.off s.stream.length with full | ends
    · exact full.symm.le.trans (Nat.le_add_left _ _)
    · refine Nat.le_of_not_lt fun lt => ?_
      cases (congrArg Option.isSome ends).symm.trans (h.isSome_read_iff.mpr lt)

end Sys2Proof.Machine
end

section
/-! PROOFS. What the caller does between evaluations (R53, R204, R223, R242, R243), and its walk of a
stream as a run of the machine (R204, R205). -/

namespace Sys2Proof.Machine

/-! ### Invariants -/

/-- Settles O45: nothing is shown of an empty stream. -/
theorem resetMeetsTheInvariant : Obligations.ResetMeetsTheInvariant :=
  ⟨reset_stream_wf, ⟨Nat.zero_le 4, rfl⟩, trivial⟩

/-- Settles O46: the fields of reset, and the ports computed from them. -/
theorem resetReportsTruncated : Obligations.ResetReportsTruncated :=
  ⟨rfl, rfl, rfl, rfl, rfl⟩

/-- Settles O47: the record delivered is one of DECODE, hence sound. -/
theorem stepKeepsTheInvariant : Obligations.StepKeepsTheInvariant := by
  intro s t inv goes
  rcases step_of_decodeBlock s with ⟨r, decoded, delivers⟩ | ⟨-, reports⟩
  · cases delivers.symm.trans goes
    exact deliver_inv inv (recordSound_of_decodeBlock decoded)
  · cases reports.symm.trans goes
    exact reportTruncated_inv inv

theorem rewrite_of_isSome {s : State} {a : Nat} (b : Byte) (there : (s.stream.read a).isSome) :
    s.rewrite a b = present { s with stream := s.stream.write a b } := by
  obtain ⟨c, hc⟩ := Option.isSome_iff_exists.mp there
  rw [State.rewrite, hc]

theorem rewrite_inv {s : State} (inv : MachineInv s) (a : Nat) (b : Byte) : MachineInv (s.rewrite a b) := by
  cases there : s.stream.read a with
  | none => rwa [State.rewrite, there]
  | some c =>
    rw [rewrite_of_isSome b (by rw [there]; rfl)]
    exact present_inv (Memory.write_wf a b inv.stream) inv.result

/-- R40: a loaded stream is the sequence loaded. -/
theorem load_remaining (s : State) (bytes : List Byte) :
    (s.load bytes).stream.isSequence ∧ (s.load bytes).remaining = bytes := by
  obtain ⟨sequence, length⟩ := Memory.ofBytes_isSequence bytes
  refine ⟨sequence, ?_⟩
  have reads : ∀ i < bytes.length, (Memory.ofBytes bytes).read (0 + i) = bytes[i]? := fun i hi => by
    rw [Memory.ofBytes, Memory.read_writeBytes, if_pos (by omega), Nat.add_sub_cancel_left]
  have ends : (Memory.ofBytes bytes).read (0 + bytes.length) = none :=
    sequence.read_eq_none (by rw [length, Nat.zero_add])
  exact (Memory.bytesAt_eq_take reads ends _).trans (List.take_of_length_le length.ge)

/-- Settles O48: each operation but driving presents a well-formed stream. -/
theorem callerOperationsKeepTheInvariant : Obligations.CallerOperationsKeepTheInvariant := fun s inv =>
  ⟨fun bytes => ⟨present_inv (Memory.ofBytes_wf bytes) inv.result, load_remaining s bytes⟩,
    fun _ => present_inv inv.stream inv.result,
    fun bytes => present_inv (Memory.writeBytes_wf _ bytes inv.stream) inv.result,
    rewrite_inv inv,
    fun nbits w => present_inv (Memory.writeBytes_wf _ (tableBytes nbits w) inv.stream) inv.result,
    fun _ _ => ⟨rfl, rfl, rfl, rfl, fun _ => present_inv inv.stream inv.result⟩⟩

/-- Settles O31: the placed bytes stand first at the ports, and the decoder takes them back. -/
theorem placedInstructionRuns : Obligations.PlacedInstructionRuns := by
  intro s i wf
  obtain ⟨-, atMost⟩ := encode_length_mem_Icc i
  have reads : ∀ j < (encode i).length, (s.stream.writeBytes s.off (encode i)).read (s.off + j) = (encode i)[j]? :=
    fun j hj => by rw [Memory.read_writeBytes, if_pos (by omega), Nat.add_sub_cancel_left]
  have shown := Memory.bytesAt_append reads (Config.window - (encode i).length)
  rw [Nat.add_sub_cancel' (show (encode i).length ≤ Config.window from atMost)] at shown
  refine step_of_decode_ok (rest := (s.stream.writeBytes s.off (encode i)).bytesAt (s.off + (encode i).length)
    (Config.window - (encode i).length)) ?_
  rw [placeAtOffset, present_input]
  exact shown ▸ decodeOfEncode i _ wf

/-- Settles O52: presenting after the write shows the new stream to DECODE. -/
theorem rewrittenByteIsSeen : Obligations.RewrittenByteIsSeen := by
  intro s a b _ there
  rw [rewrite_of_isSome b there]
  refine ⟨Memory.read_write_same _ a b, fun c other => Memory.read_write_other _ b other, ?_⟩
  obtain ⟨t, goes, result⟩ := stepIsDecode (present { s with stream := s.stream.write a b })
  exact ⟨t, goes, result.trans (congrArg decodeBlock (present_input _))⟩

/-- Settles O53: in the longer stream the remaining bytes are followed by the new ones, and by nothing. -/
theorem supplyingMoreBytesResumes : Obligations.SupplyingMoreBytesResumes := by
  intro s more _ sequence inside
  have length := off_add_length_remaining sequence inside
  obtain ⟨t, goes, result⟩ := stepIsDecode (s.supply more)
  refine ⟨t, goes, ?_⟩
  obtain ⟨longer, total⟩ := sequence.writeBytes_end more
  have reads : ∀ i < (s.remaining ++ more).length,
      (s.stream.writeBytes s.stream.length more).read (s.off + i) = (s.remaining ++ more)[i]? := fun i hi => by
    rw [List.length_append] at hi
    rw [Memory.read_writeBytes]
    by_cases old : i < s.remaining.length
    · rw [if_neg (by omega), List.getElem?_append_left old]
      exact Memory.read_of_bytesAt _ _ _ i old
    · rw [if_pos (by omega), List.getElem?_append_right (Nat.le_of_not_lt old)]
      congr 1
      omega
  have ends : (s.stream.writeBytes s.stream.length more).read (s.off + (s.remaining ++ more).length) = none :=
    longer.read_eq_none (by rw [total, List.length_append]; omega)
  rw [result, State.supply, present_input, sequence.endAddr_eq, Memory.bytesAt_eq_take reads ends]

/-- Settles O49: a record is no longer than the bytes shown, and those are bytes of the stream. -/
theorem advanceStaysInTheStream : Obligations.AdvanceStaysInTheStream := by
  intro s t r inv goes result
  rcases step_of_decodeBlock s with ⟨q, decoded, delivers⟩ | ⟨-, reports⟩
  · cases delivers.symm.trans goes
    cases result
    refine ⟨rfl, fun a lower upper => ?_⟩
    have shown : a - s.off < s.input.length := by
      have := length_le_of_decodeBlock decoded
      rw [deliver_off] at upper
      omega
    rw [inv.ports.2] at shown
    rw [← Nat.add_sub_cancel' lower]
    exact Memory.isSome_read_of_bytesAt shown
  · cases reports.symm.trans goes
    cases result

/-! ### The walk (R204, R205) -/

/-- R204, R205: the caller's walk without fuel: it takes the records and how it ends. -/
inductive Walks : List Byte → Nat → List Record × WalkEnd → Prop
  | clean (off : Nat) : Walks [] off ([], .clean off)
  | truncated {bytes : List Byte} (off : Nat) (nonempty : bytes ≠ [])
      (short : decodeBlock bytes = .err .truncated) : Walks bytes off ([], .truncated off)
  | record {bytes : List Byte} {off : Nat} {r : Record} {w : List Record × WalkEnd}
      (decoded : decodeBlock bytes = .ok r) (rest : Walks (bytes.drop r.length) (off + r.length) w) :
      Walks bytes off (r :: w.1, w.2)

/-- R196: every record takes a byte, so a unit of fuel for each byte is enough. -/
theorem walks_walkFuel {fuel : Nat} {bytes : List Byte} (off : Nat) (enough : bytes.length ≤ fuel) :
    Walks bytes off (walkFuel fuel bytes off) := by
  induction fuel generalizing bytes off with
  | zero =>
    rw [List.eq_nil_of_length_eq_zero (Nat.le_zero.mp enough)]
    exact .clean off
  | succ fuel ih =>
    rcases bytes with _ | ⟨b, bytes⟩
    · exact .clean off
    rcases truncated_or_exists_ok (decodeBlock (b :: bytes)) with short | ⟨r, decoded⟩
    · rw [walkFuel, short]
      exact .truncated off (List.cons_ne_nil b bytes) short
    · obtain ⟨positive, -⟩ := (recordSound_of_decodeBlock decoded).lengthRange
      rw [walkFuel, decoded]
      exact .record decoded (ih _ (by rw [List.length_drop]; omega))

theorem walks_walk (bytes : List Byte) (off : Nat) : Walks bytes off (walk bytes off) :=
  walks_walkFuel off (Nat.le_refl _)

/-- Settles O50, by induction on the walk. -/
theorem walkEnds : Obligations.WalkEnds := by
  intro bytes off
  have walks := walks_walk bytes off
  generalize walk bytes off = w at walks ⊢
  induction walks with
  | clean off => exact .inl ⟨rfl, rfl⟩
  | truncated off nonempty short => exact .inr ⟨rfl, List.length_pos_of_ne_nil nonempty, short⟩
  | @record bytes off r w decoded _ ih =>
    have fits := length_le_of_decodeBlock decoded
    simp only [List.map_cons, List.sum_cons, List.length_drop, List.drop_drop, Nat.add_assoc] at ih ⊢
    exact ih.imp (fun ⟨ends, total⟩ => ⟨ends, by omega⟩) fun ⟨ends, total, short⟩ => ⟨ends, by omega, short⟩

theorem run_succ {s t : State} (goes : step s = .next t) (k : Nat) : core.run (k + 1) s = core.run k t := by
  simp only [Host.Core.run, show core.step s = .next t from goes]

/-- R204: a record of the walk is one step of the machine. -/
theorem runs_of_walks {bytes : List Byte} {off : Nat} {w : List Record × WalkEnd} (walks : Walks bytes off w) :
    ∀ s : State, MachineInv s → s.remaining = bytes → s.off = off →
      (∀ k r, w.1[k]? = some r → ∃ t, core.run (k + 1) s = .next t ∧ t.result = .ok r) ∧
      ∃ t, core.run w.1.length s = .next t ∧
        (w.2 = .clean t.off ∨ (w.2 = .truncated t.off ∧ decodeBlock t.input = .err .truncated)) := by
  induction walks with
  | clean =>
    rintro s - - rfl
    exact ⟨nofun, s, rfl, .inl rfl⟩
  | truncated _ _ short =>
    rintro s inv rfl rfl
    exact ⟨nofun, s, rfl, .inr ⟨rfl, inv.decodeBlock_input.trans short⟩⟩
  | @record _ _ r w decoded _ ih =>
    rintro s inv rfl rfl
    have goes : step s = .next (deliver r s) := step_of_record (inv.decodeBlock_input.trans decoded)
    obtain ⟨records, ends⟩ := ih (deliver r s) (stepKeepsTheInvariant s _ inv goes)
      (remaining_deliver (length_le_of_decodeBlock decoded)) rfl
    refine ⟨fun k q hk => ?_, by simpa only [List.length_cons, run_succ goes] using ends⟩
    rw [run_succ goes]
    cases k with
    | zero => exact ⟨deliver r s, rfl, congrArg Result.ok (Option.some.inj hk)⟩
    | succ k => exact records k q hk

/-- Settles O51: the walk of the remaining bytes, by induction on it. -/
theorem walkIsTheMachineRun : Obligations.WalkIsTheMachineRun := fun s inv =>
  runs_of_walks (walks_walk s.remaining s.off) s inv rfl rfl

end Sys2Proof.Machine
end

section
/-! PROOFS. Each instruction completes (R131 to R172, R199): the record its meaning delivers has the base
opcode with the fields of the statement, in either view of y (R67). -/

namespace Sys2Proof.Machine

/-! ### The base opcode as a number (R67) -/

theorem opXYZ_eq (x : BitVec 2) (y z : BitVec 3) : opXYZ x y z = byteXYZ x.toNat y.toNat z.toNat := by
  decide +revert

theorem opXPQZ_eq (x p : BitVec 2) (q : BitVec 1) (z : BitVec 3) :
    opXPQZ x p q z = byteXYZ x.toNat (2 * p.toNat + q.toNat) z.toNat := by
  decide +revert

theorem opXPQZ_zero_eq (x : BitVec 2) (q : BitVec 1) (z : BitVec 3) :
    opXPQZ x 0 q z = byteXYZ x.toNat q.toNat z.toNat := by
  rw [opXPQZ_eq, BitVec.ofNat_eq_ofNat, BitVec.toNat_zero, Nat.mul_zero, Nat.zero_add]

/-- An instruction completes with the record its meaning delivers. -/
theorem Delivers.of_exec {i : Instr} {s : State} {kind : PrefixKind} {op op' : Byte} {disp : Option Int}
    {imm : Option Immediate} {len : Nat} (goes : exec i s = .next (deliver ⟨kind, classify op, disp, imm, len⟩ s))
    (opcode : op = op') : Delivers i s kind op' disp imm len := by
  subst opcode
  obtain ⟨result, off, stream, input, -⟩ := deliver_spec ⟨kind, classify op, disp, imm, len⟩ s
  exact ⟨_, goes, result, off, fun a => by rw [stream], input⟩

/-! ### The rows. Their selecting conditions are not needed: `exec` goes on for every term (log entry 19). -/

/-- Settles O39: row by row. -/
theorem formatNRowsWithoutOperands : Obligations.FormatNRowsWithoutOperands := fun _ y z p =>
  ⟨fun _ => .of_exec rfl (opXYZ_eq 0 y 0),     -- N.X0Z0.LO, R131
    .of_exec rfl (opXPQZ_eq 0 p 1 1),           -- N.X0Z1.Q1, R134
    fun _ => .of_exec rfl (opXYZ_eq 0 y 2),     -- N.X0Z2.PLO, R135
    .of_exec rfl (opXYZ_eq 0 y 3),              -- N.X0Z3, R137
    .of_exec rfl (opXYZ_eq 0 y 4),              -- N.X0Z4, R138
    .of_exec rfl (opXYZ_eq 0 y 5),              -- N.X0Z5, R139
    .of_exec rfl (opXYZ_eq 0 y 7),              -- N.X0Z7, R141
    .of_exec rfl (opXYZ_eq 1 y z),              -- N.X1, R142
    .of_exec rfl (opXYZ_eq 2 y z),              -- N.X2, R143
    .of_exec rfl (opXYZ_eq 3 y 0),              -- N.X3Z0, R144
    .of_exec rfl (opXYZ_eq 3 y 1),              -- N.X3Z1, R145
    fun _ => .of_exec rfl (opXYZ_eq 3 y 3),     -- N.X3Z3.YHI, R150
    .of_exec rfl (opXYZ_eq 3 y 4),              -- N.X3Z4, R151
    fun _ => .of_exec rfl (opXPQZ_eq 3 p 0 5),  -- N.X3Z5.Q0P, R153
    .of_exec rfl (opXYZ_eq 3 y 7)⟩              -- N.X3Z7, R156

/-- Settles O40: row by row. -/
theorem formatNRowsWithOperands : Obligations.FormatNRowsWithOperands := fun _ y p q _ _ _ =>
  ⟨fun _ => .of_exec rfl (opXYZ_eq 0 y 0),  -- N.X0Z0.REL, R132
    .of_exec rfl (opXPQZ_eq 0 p 0 1),        -- N.X0Z1.Q0, R133
    fun _ => .of_exec rfl (opXYZ_eq 0 y 2),  -- N.X0Z2.PHI, R136
    .of_exec rfl (opXYZ_eq 0 y 6),           -- N.X0Z6, R140
    .of_exec rfl (opXYZ_eq 3 y 2),           -- N.X3Z2, R146
    .of_exec rfl (opXYZ_eq 3 0 3),           -- N.X3Z3.Y0, R147
    fun _ => .of_exec rfl (opXYZ_eq 3 y 3),  -- N.X3Z3.Y23, R149
    .of_exec rfl (opXPQZ_zero_eq 3 q 5),     -- N.X3Z5.P0, R152
    .of_exec rfl (opXYZ_eq 3 y 6)⟩           -- N.X3Z6, R155

/-- Settles O41: row by row, DD and then FD. -/
theorem formatXyRowsWithoutOperands : Obligations.FormatXyRowsWithoutOperands := fun _ y z p =>
  ⟨fun _ => .of_exec rfl (opXYZ_eq 0 y 0),     -- DD.X0Z0.LO, R131
    .of_exec rfl (opXPQZ_eq 0 p 1 1),           -- DD.X0Z1.Q1, R134
    fun _ => .of_exec rfl (opXYZ_eq 0 y 2),     -- DD.X0Z2.PLO, R135
    .of_exec rfl (opXYZ_eq 0 y 3),              -- DD.X0Z3, R137
    fun _ => .of_exec rfl (opXYZ_eq 0 y 4),     -- DD.X0Z4, R138
    fun _ => .of_exec rfl (opXYZ_eq 0 y 5),     -- DD.X0Z5, R139
    .of_exec rfl (opXYZ_eq 0 y 7),              -- DD.X0Z7, R141
    fun _ => .of_exec rfl (opXYZ_eq 1 y z),     -- DD.X1, R142
    fun _ => .of_exec rfl (opXYZ_eq 2 y z),     -- DD.X2, R143
    .of_exec rfl (opXYZ_eq 3 y 0),              -- DD.X3Z0, R144
    .of_exec rfl (opXYZ_eq 3 y 1),              -- DD.X3Z1, R145
    fun _ => .of_exec rfl (opXYZ_eq 3 y 3),     -- DD.X3Z3.YHI, R150
    .of_exec rfl (opXYZ_eq 3 y 4),              -- DD.X3Z4, R151
    fun _ => .of_exec rfl (opXPQZ_eq 3 p 0 5),  -- DD.X3Z5.Q0P, R153
    fun _ => .of_exec rfl (opXPQZ_eq 3 p 1 5),  -- DD.X3Z5.Q1P, R154
    .of_exec rfl (opXYZ_eq 3 y 7),              -- DD.X3Z7, R156
    .of_exec rfl (opXYZ_eq 1 6 6),              -- DD.X1.Y6Z6, R166
    fun _ => .of_exec rfl (opXYZ_eq 0 y 0),     -- FD.X0Z0.LO, R131
    .of_exec rfl (opXPQZ_eq 0 p 1 1),           -- FD.X0Z1.Q1, R134
    fun _ => .of_exec rfl (opXYZ_eq 0 y 2),     -- FD.X0Z2.PLO, R135
    .of_exec rfl (opXYZ_eq 0 y 3),              -- FD.X0Z3, R137
    fun _ => .of_exec rfl (opXYZ_eq 0 y 4),     -- FD.X0Z4, R138
    fun _ => .of_exec rfl (opXYZ_eq 0 y 5),     -- FD.X0Z5, R139
    .of_exec rfl (opXYZ_eq 0 y 7),              -- FD.X0Z7, R141
    fun _ => .of_exec rfl (opXYZ_eq 1 y z),     -- FD.X1, R142
    fun _ => .of_exec rfl (opXYZ_eq 2 y z),     -- FD.X2, R143
    .of_exec rfl (opXYZ_eq 3 y 0),              -- FD.X3Z0, R144
    .of_exec rfl (opXYZ_eq 3 y 1),              -- FD.X3Z1, R145
    fun _ => .of_exec rfl (opXYZ_eq 3 y 3),     -- FD.X3Z3.YHI, R150
    .of_exec rfl (opXYZ_eq 3 y 4),              -- FD.X3Z4, R151
    fun _ => .of_exec rfl (opXPQZ_eq 3 p 0 5),  -- FD.X3Z5.Q0P, R153
    fun _ => .of_exec rfl (opXPQZ_eq 3 p 1 5),  -- FD.X3Z5.Q1P, R154
    .of_exec rfl (opXYZ_eq 3 y 7),              -- FD.X3Z7, R156
    .of_exec rfl (opXYZ_eq 1 6 6)⟩              -- FD.X1.Y6Z6, R166

/-- Settles O42: row by row, DD and then FD. -/
theorem formatXyRowsWithOperands : Obligations.FormatXyRowsWithOperands := fun _ y p q _ _ _ =>
  ⟨fun _ => .of_exec rfl (opXYZ_eq 0 y 0),  -- DD.X0Z0.REL, R132
    .of_exec rfl (opXPQZ_eq 0 p 0 1),        -- DD.X0Z1.Q0, R133
    fun _ => .of_exec rfl (opXYZ_eq 0 y 2),  -- DD.X0Z2.PHI, R136
    fun _ => .of_exec rfl (opXYZ_eq 0 y 6),  -- DD.X0Z6, R140
    .of_exec rfl (opXYZ_eq 3 y 2),           -- DD.X3Z2, R146
    .of_exec rfl (opXYZ_eq 3 0 3),           -- DD.X3Z3.Y0, R147
    fun _ => .of_exec rfl (opXYZ_eq 3 y 3),  -- DD.X3Z3.Y23, R149
    .of_exec rfl (opXPQZ_zero_eq 3 q 5),     -- DD.X3Z5.P0, R152
    .of_exec rfl (opXYZ_eq 3 y 6),           -- DD.X3Z6, R155
    fun _ => .of_exec rfl (opXYZ_eq 0 y 0),  -- FD.X0Z0.REL, R132
    .of_exec rfl (opXPQZ_eq 0 p 0 1),        -- FD.X0Z1.Q0, R133
    fun _ => .of_exec rfl (opXYZ_eq 0 y 2),  -- FD.X0Z2.PHI, R136
    fun _ => .of_exec rfl (opXYZ_eq 0 y 6),  -- FD.X0Z6, R140
    .of_exec rfl (opXYZ_eq 3 y 2),           -- FD.X3Z2, R146
    .of_exec rfl (opXYZ_eq 3 0 3),           -- FD.X3Z3.Y0, R147
    fun _ => .of_exec rfl (opXYZ_eq 3 y 3),  -- FD.X3Z3.Y23, R149
    .of_exec rfl (opXPQZ_zero_eq 3 q 5),     -- FD.X3Z5.P0, R152
    .of_exec rfl (opXYZ_eq 3 y 6)⟩           -- FD.X3Z6, R155

/-- Settles O43: row by row, DD and then FD. -/
theorem formatXyIndexedRows : Obligations.FormatXyIndexedRows := fun _ y z _ _ =>
  ⟨.of_exec rfl (opXYZ_eq 0 6 4),           -- DD.IDX.X0Z4, R161
    .of_exec rfl (opXYZ_eq 0 6 5),           -- DD.IDX.X0Z5, R162
    .of_exec rfl (opXYZ_eq 0 6 6),           -- DD.IDX.X0Z6, R163
    fun _ => .of_exec rfl (opXYZ_eq 1 y 6),  -- DD.IDX.X1Z6, R164
    fun _ => .of_exec rfl (opXYZ_eq 1 6 z),  -- DD.IDX.X1Y6, R165
    .of_exec rfl (opXYZ_eq 2 y 6),           -- DD.IDX.X2Z6, R167
    .of_exec rfl (opXYZ_eq 0 6 4),           -- FD.IDX.X0Z4, R161
    .of_exec rfl (opXYZ_eq 0 6 5),           -- FD.IDX.X0Z5, R162
    .of_exec rfl (opXYZ_eq 0 6 6),           -- FD.IDX.X0Z6, R163
    fun _ => .of_exec rfl (opXYZ_eq 1 y 6),  -- FD.IDX.X1Z6, R164
    fun _ => .of_exec rfl (opXYZ_eq 1 6 z),  -- FD.IDX.X1Y6, R165
    .of_exec rfl (opXYZ_eq 2 y 6)⟩           -- FD.IDX.X2Z6, R167

/-- Settles O44: the base opcode is the byte itself. -/
theorem formatCbEdAndCompositeRows : Obligations.FormatCbEdAndCompositeRows := fun _ _ _ =>
  ⟨.of_exec rfl rfl,  -- CB.ANY, R170
    .of_exec rfl rfl,  -- ED.ANY, R171
    .of_exec rfl rfl,  -- DDCB.ANY, R172
    .of_exec rfl rfl⟩  -- FDCB.ANY, R172

/-- Settles O29, by evaluation of the decoder. -/
theorem sampleWordsDecode : Obligations.SampleWordsDecode := by
  unfold Obligations.SampleWordsDecode
  decide

end Sys2Proof.Machine
end
